-- ==== Sys2Proof/Word.lean ====
section
/-! DEFINITION. The two word types of the machine: the byte that registers and memory cells hold, and the
16-bit word of addresses, of the program counter and of the pair YA (00_scope.md R6). -/

namespace Sys2Proof

/-- A byte: A, X, Y, SP, PSW, a memory cell, an operand byte (00_scope.md R6). -/
abbrev Byte := BitVec 8

/-- A 16-bit word: YA, a 16-bit datum (00_scope.md R6). -/
abbrev Word := BitVec 16

/-- A 16-bit address, and the program counter (10_state.md R25, 20_memory.md R50). -/
abbrev Addr := BitVec 16

end Sys2Proof
end

