-- ==== Sys2Proof/Config.lean ====
section
/-! DEFINITION. What an implementation fixes: the parameters of 00_scope.md R5. Those that are plain data stand in
`Config.Settings`, one value of which every state carries (log 4); those that are functions, and the environment's
answers, are opaque constants, so that no proof can see a value of them (logs 20, 21, 25). -/

namespace Sys2Proof.Config

/-- UNUSABLE_POLICY: what an access to the range marked "Unusable" does (20_memory.md R60, D28, log 23). -/
inductive UnusablePolicy where
  /-- The access has no meaning and the run is refused. -/
  | refuse
  /-- The range behaves as RAM. -/
  | ram
  deriving DecidableEq, Repr

/-- MUL_FLAGS: which value N and Z of MUL look at (45_muldiv_decimal.md R410, D18, log 15). -/
inductive MulFlags where
  /-- The 16-bit product. -/
  | ya
  /-- The high byte of the product, the new Y. -/
  | y
  deriving DecidableEq, Repr

/-- TSET_TEST: the value that TSET1 and TCLR1 test (48_bit.md R503, R504, D21, log 18). -/
inductive TsetTest where
  /-- The difference A - m modulo 256. -/
  | sub
  /-- The conjunction A AND m. -/
  | and
  deriving DecidableEq, Repr

/-- The parameters of 00_scope.md R5 that are plain data. The field defaults are the table's column "default";
a statement about the machine holds for every value of every field (log 4). -/
structure Settings where
  /-- RAM_TOP, the last address of RAM (20_memory.md R59, log 38). -/
  ramTop : Addr := 0x7FFF
  /-- UNUSABLE_POLICY (20_memory.md R60, log 23). -/
  unusablePolicy : UnusablePolicy := .refuse
  /-- IO_REGION, the addresses that the environment answers (20_memory.md R57, log 25). -/
  ioRegion : List Addr := []
  /-- TCALL_TABLE_TOP, the address of the vector of TCALL 0 (47_call_stack.md R472, log 5). -/
  tcallTop : Addr := 0xFFDE
  /-- BRK_VECTOR (47_call_stack.md R473, log 6). -/
  brkVector : Addr := 0xFFDE
  /-- UPAGE_BASE (20_memory.md R65, log 7). -/
  upageBase : Addr := 0xFF00
  /-- MUL_FLAGS (45_muldiv_decimal.md R410, log 15). -/
  mulFlags : MulFlags := .ya
  /-- H16_BIT, the bit whose carry sets H in ADDW and SUBW (44_word16.md R391, R392, log 14). -/
  h16Bit : Fin 16 := 11
  /-- CMPW_WRITES_C (44_word16.md R399, log 16). -/
  cmpwWritesC : Bool := false
  /-- TSET_TEST (48_bit.md R503, R504, log 18). -/
  tsetTest : TsetTest := .sub
  /-- SETP_CLEARS_I (49_psw_misc.md R535, log 17). -/
  setpClearsI : Bool := true
  deriving DecidableEq, Repr

/-- FREE VALUE, the parameter div_overflow: quotient (for A) and remainder (for Y) of DIV as a function of the
operands y, a, x, when the quotient does not fit 8 bits (45_muldiv_decimal.md R411, D19, U5, log 20). -/
opaque divOverflow (y a x : Byte) : Byte × Byte

/-- FREE VALUE, the parameter div_h: the flag H after DIV as a function of the operands y, a, x
(45_muldiv_decimal.md R411, D19, U6, log 21). -/
opaque divH (y a x : Byte) : Bool

/-- FREE VALUE: the byte the environment answers to the `n`-th read of an address of IO_REGION, at address `addr`
(20_memory.md R57, D29, U17, log 25). -/
opaque ioRead (n : Nat) (addr : Addr) : Byte

end Sys2Proof.Config
end

