-- ==== Sys2Proof/Machine/Bits.lean ====
section
/-! DEFINITION. Byte order, extension and single-bit helpers that the decoder and the meanings share
(00_scope.md R6, 20_memory.md R52, R54, 48_bit.md R500). -/

namespace Sys2Proof.Machine

/-- `hi:lo`, the 16-bit value 256 * hi + lo (00_scope.md R6). -/
def mkWord (hi lo : Byte) : Word := hi ++ lo

/-- Bits 15..8 of a word (10_state.md R24, R25). -/
def hiByte (w : Word) : Byte := w.extractLsb' 8 8

/-- Bits 7..0 of a word (10_state.md R24, R25). -/
def loByte (w : Word) : Byte := w.extractLsb' 0 8

/-- `sext_16` (00_scope.md R6). -/
def sext16 (b : Byte) : Word := b.signExtend 16

/-- `zext_16` (00_scope.md R6). -/
def zext16 (b : Byte) : Word := b.setWidth 16

/-- `m[b]`, bit `b` of a byte, bit 0 the least significant (48_bit.md R500). -/
def testBit8 (m : Byte) (b : Nat) : Bool := m.getLsbD b

/-- `withbit(m, b, v)`: `m` with bit `b` replaced by `v` and the other bits kept (48_bit.md R500). -/
def withBit (m : Byte) (b : Nat) (v : Bool) : Byte :=
  (m &&& ~~~(1#8 <<< b)) ||| (if v then 1#8 <<< b else 0#8)

/-- The operand word of mem.bit: the address in bits 12..0, the bit number in bits 15..13
(20_memory.md R82, 30_encoding.md R112, log 9). -/
def packMemBit (addr : Addr) (bit : Nat) : Word :=
  (BitVec.ofNat 16 bit <<< 13) ||| (addr &&& 0x1FFF)

/-- The byte address of a mem.bit operand word, bits 12..0 (20_memory.md R82). -/
def memBitAddr (w : Word) : Addr := w &&& 0x1FFF

/-- The bit number of a mem.bit operand word, bits 15..13 (20_memory.md R82). -/
def memBitNo (w : Word) : Nat := (w >>> 13).toNat

end Sys2Proof.Machine
end

