-- ==== Sys2Proof/Machine/Memory.lean ====
section
/-! DEFINITION. The 65536 byte cells (10_state.md R39, 20_memory.md R50) as a list of (address, byte) pairs in one
canonical form, and the address map (20_memory.md R58). What a read or a write of the CPU does in each region is in
Machine/Ops.lean. -/

namespace Sys2Proof.Machine

/-- Memory: the cells that do not hold what an unlisted cell reads as. RAM, the "Unusable" range and the ROM alike
(20_memory.md R50); the ROM's contents are a parameter of the spec and are held here, so that a state can carry any
ROM (20_memory.md R61, log 2). -/
abbrev Memory := List Host.Cell

/-- What an unlisted address reads as: 00. DESIGN CHOICE, unsafe: the spec gives RAM no value at reset (U16, log 1)
and does not list the ROM (U4, log 2). -/
def Memory.unlisted : Byte := 0#8

/-- The byte of the cell at address `addr`. -/
def Memory.read : Memory → Nat → Byte
  | [], _ => Memory.unlisted
  | (k, b) :: rest, addr => if k = addr then b else Memory.read rest addr

/-- Put a cell before the first cell of a higher address. -/
def Memory.insert (addr : Nat) (v : Byte) : Memory → Memory
  | [] => [(addr, v)]
  | (k, b) :: rest => if addr < k then (addr, v) :: (k, b) :: rest else (k, b) :: Memory.insert addr v rest

/-- The memory with the cell at `addr` replaced by `v`; a cell that comes to hold the unlisted value is not listed. -/
def Memory.write (m : Memory) (addr : Nat) (v : Byte) : Memory :=
  let others := m.filter (fun c => c.1 ≠ addr)
  if v = Memory.unlisted then others else Memory.insert addr v others

/-- Addresses strictly rise from above `low`, stay below 65536, and no cell holds the unlisted value. -/
def Memory.wfFrom : Nat → Memory → Bool
  | _, [] => true
  | low, (k, b) :: rest => decide (low ≤ k) && decide (k < 65536) && decide (b ≠ Memory.unlisted) && Memory.wfFrom (k + 1) rest

/-- The canonical form: addresses strictly rising, all of the address space, no cell equal to what an unlisted
address reads as. -/
def Memory.wf (m : Memory) : Bool := Memory.wfFrom 0 m

/-- The regions of the address map (20_memory.md R58). -/
inductive Region where
  /-- 0000 to RAM_TOP (20_memory.md R59). -/
  | ram
  /-- The range marked "Unusable" (20_memory.md R60). -/
  | unusable
  /-- FFC0 to FFFF, the internal mask ROM (20_memory.md R61). -/
  | rom
  deriving DecidableEq, Repr

/-- The first address of the internal ROM (20_memory.md R61). -/
def romBase : Addr := 0xFFC0

/-- The address map (20_memory.md R58 to R61). -/
def regionOf (ramTop addr : Addr) : Region :=
  if romBase ≤ addr then .rom else if addr ≤ ramTop then .ram else .unusable

end Sys2Proof.Machine
end

