-- ==== Sys2Proof/Machine/State.lean ====
section
/-! DEFINITION. The machine's state as plain data, the reasons a step can stop, and the state after reset
(10_state.md R20 to R42). -/

namespace Sys2Proof.Machine

/-- The run state (10_state.md R40). -/
inductive RunState where
  | running
  | sleep
  | stop
  deriving DecidableEq, Repr

/-- The whole state. The first eight fields are the spec's (10_state.md R20); `cfg`, `ioReads` and `ioLog` are the
model's own (logs 4, 25). -/
@[ext]
structure State where
  /-- The accumulator, low byte of YA (10_state.md R21). -/
  a : Byte
  /-- The X register (10_state.md R22). -/
  x : Byte
  /-- The Y register, high byte of YA (10_state.md R23). -/
  y : Byte
  /-- The stack pointer, low byte of the stack address (10_state.md R27, R28). -/
  sp : Byte
  /-- The program status word, N V P B H I Z C from bit 7 to bit 0 (10_state.md R29). -/
  psw : Byte
  /-- The program counter (10_state.md R25, R26). -/
  pc : Addr
  /-- The 65536 byte cells (10_state.md R39). -/
  mem : Memory
  /-- The run state (10_state.md R40). -/
  run : RunState
  /-- The spec's parameters; no step writes them (00_scope.md R5, log 4). -/
  cfg : Config.Settings
  /-- How many reads the environment has answered (20_memory.md R57, log 25). -/
  ioReads : Nat
  /-- What was written to IO_REGION, oldest first (20_memory.md R57, log 25). -/
  ioLog : List Host.Cell
  deriving DecidableEq, Repr

/-- The faults: a step asked of a machine that has none (the stuck states of U1). -/
inductive Fault where
  /-- Raised by `step` while the run state is Sleep (10_state.md R40, 60_exceptions.md R615, log 26). Safe: the spec
  gives the CPU no step there. -/
  | standbySleep
  /-- Raised by `step` while the run state is Stop (10_state.md R40, 60_exceptions.md R615, log 26). Safe: the spec
  gives the CPU no step there. -/
  | standbyStop
  deriving DecidableEq, Repr

/-- The refusals: the spec gives the run no meaning. -/
inductive Refusal where
  /-- Raised by an arm of `exec` whose instruction has no meaning yet. Safe. No arm does. -/
  | notModelled (mnemonic : String)
  /-- Raised by any access to the "Unusable" range under the policy `refuse` (20_memory.md R60, U2, log 23). Safe. -/
  | unusableAccess (addr : Addr)
  /-- Raised by a write to the internal ROM (20_memory.md R61, U3, log 24). Safe. -/
  | romWrite (addr : Addr)
  /-- Raised by a fetch whose code has no row in the opcode table. No code is so (30_encoding.md R119, log 37). Safe. -/
  | undecodable (code : Byte)
  deriving DecidableEq, Repr

/-- The outcome of an instruction or of a step. -/
abbrev Result := Host.Outcome State Fault Refusal

/-- The machine right after reset (10_state.md R42, 70_reset_and_hazards.md R700). The spec states: N V P H Z C are 0,
pc is the word at FFFE/FFFF, the run state is Running. A, X, Y, SP, B and I are unspecified and 0 here (log 3); memory
lists nothing (logs 1, 2); the parameters have the defaults of 00_scope.md R5 (log 4). -/
def State.reset : State where
  a := 0
  x := 0
  y := 0
  sp := 0
  psw := 0
  pc := mkWord (Memory.read [] 0xFFFF) (Memory.read [] 0xFFFE)
  mem := []
  run := .running
  cfg := {}
  ioReads := 0
  ioLog := []

end Sys2Proof.Machine
end

