-- ==== Sys2Proof/Machine/Flags.lean ====
section
/-! DEFINITION. The flags of the PSW (10_state.md R29 to R37) and every flag computation of the spec, each as a function
that returns its result and the state with the flags written. -/

namespace Sys2Proof.Machine

/-- The eight flags of the PSW (10_state.md R29). -/
inductive Flag where
  | n | v | p | b | h | i | z | c
  deriving DecidableEq, Repr

/-- The bit of the PSW that holds a flag (10_state.md R29). -/
def Flag.bit : Flag → Nat
  | .n => 7
  | .v => 6
  | .p => 5
  | .b => 4
  | .h => 3
  | .i => 2
  | .z => 1
  | .c => 0

/-- The value of a flag. -/
def State.flag (s : State) (f : Flag) : Bool := testBit8 s.psw f.bit

/-- The state with one flag written and the other seven bits of the PSW kept. -/
def State.setFlag (s : State) (f : Flag) (v : Bool) : State := { s with psw := withBit s.psw f.bit v }

/-- `setNZ8(v)`: N is bit 7, Z says that the byte is 0 (40_mov8.md R200, 10_state.md R31, R35). -/
def setNZ8 (v : Byte) (s : State) : State := (s.setFlag .n v.msb).setFlag .z (v == 0)

/-- `setNZ16(w)`: N is bit 15, Z says that the word is 0 (44_word16.md R390). -/
def setNZ16 (w : Word) (s : State) : State := (s.setFlag .n w.msb).setFlag .z (w == 0)

/-- `adc8(a, m)`: addition with carry in; writes N V H Z C (41_arith8.md R250, log 13). -/
def adc8 (a m : Byte) (s : State) : Byte × State :=
  let c := (s.flag .c).toNat
  let t := a.toNat + m.toNat + c
  let r := BitVec.ofNat 8 t
  let s := s.setFlag .c (decide (255 < t))
  let s := s.setFlag .h (decide (15 < a.toNat % 16 + m.toNat % 16 + c))
  let s := s.setFlag .v (a.msb == m.msb && r.msb != a.msb)
  (r, setNZ8 r s)

/-- `sbc8(a, m)`: subtraction with borrow in, the borrow being the complement of C; writes N V H Z C
(41_arith8.md R251, log 13). -/
def sbc8 (a m : Byte) (s : State) : Byte × State :=
  let borrow := (!s.flag .c).toNat
  let r := BitVec.ofNat 8 (256 + a.toNat - m.toNat - borrow)
  let s := s.setFlag .c (decide (m.toNat + borrow ≤ a.toNat))
  let s := s.setFlag .h (decide (m.toNat % 16 + borrow ≤ a.toNat % 16))
  let s := s.setFlag .v (a.msb != m.msb && r.msb != a.msb)
  (r, setNZ8 r s)

/-- `cmp8(a, m)`: comparison; reads no flag, writes N Z C, stores no result (41_arith8.md R252). -/
def cmp8 (a m : Byte) (s : State) : State :=
  setNZ8 (a - m) (s.setFlag .c (decide (m.toNat ≤ a.toNat)))

/-- `and8(a, m)`; writes N Z (42_logic8.md R300). -/
def and8 (a m : Byte) (s : State) : Byte × State := (a &&& m, setNZ8 (a &&& m) s)

/-- `or8(a, m)`; writes N Z (42_logic8.md R300). -/
def or8 (a m : Byte) (s : State) : Byte × State := (a ||| m, setNZ8 (a ||| m) s)

/-- `eor8(a, m)`; writes N Z (42_logic8.md R300). -/
def eor8 (a m : Byte) (s : State) : Byte × State := (a ^^^ m, setNZ8 (a ^^^ m) s)

/-- `inc8(v)`; writes N Z (43_incdec_shift.md R350). -/
def inc8 (v : Byte) (s : State) : Byte × State := (v + 1, setNZ8 (v + 1) s)

/-- `dec8(v)`; writes N Z (43_incdec_shift.md R350). -/
def dec8 (v : Byte) (s : State) : Byte × State := (v - 1, setNZ8 (v - 1) s)

/-- `asl8(v)`: 0 enters bit 0, bit 7 goes to C; writes N Z C (43_incdec_shift.md R351). -/
def asl8 (v : Byte) (s : State) : Byte × State :=
  let r := v <<< 1
  (r, setNZ8 r (s.setFlag .c v.msb))

/-- `lsr8(v)`: 0 enters bit 7, bit 0 goes to C; writes N Z C (43_incdec_shift.md R352). -/
def lsr8 (v : Byte) (s : State) : Byte × State :=
  let r := v >>> 1
  (r, setNZ8 r (s.setFlag .c (testBit8 v 0)))

/-- `rol8(v)`: the old C enters bit 0, bit 7 goes to C; writes N Z C (43_incdec_shift.md R353). -/
def rol8 (v : Byte) (s : State) : Byte × State :=
  let r := withBit (v <<< 1) 0 (s.flag .c)
  (r, setNZ8 r (s.setFlag .c v.msb))

/-- `ror8(v)`: the old C enters bit 7, bit 0 goes to C; writes N Z C (43_incdec_shift.md R354). -/
def ror8 (v : Byte) (s : State) : Byte × State :=
  let r := withBit (v >>> 1) 7 (s.flag .c)
  (r, setNZ8 r (s.setFlag .c (testBit8 v 0)))

/-- XCN: the two nibbles exchanged; writes N Z (43_incdec_shift.md R383). -/
def xcn8 (v : Byte) (s : State) : Byte × State :=
  let r := (v <<< 4) ||| (v >>> 4)
  (r, setNZ8 r s)

/-- `addw16(ya, w)`: 16-bit addition without carry in; writes N V H Z C; H is the carry out of the bit H16_BIT
(44_word16.md R391, D17, log 14). -/
def addw16 (ya w : Word) (s : State) : Word × State :=
  let t := ya.toNat + w.toNat
  let r := BitVec.ofNat 16 t
  let half := 2 ^ (s.cfg.h16Bit.val + 1)
  let s := s.setFlag .c (decide (65535 < t))
  let s := s.setFlag .h (decide (half ≤ ya.toNat % half + w.toNat % half))
  let s := s.setFlag .v (ya.msb == w.msb && r.msb != ya.msb)
  (r, setNZ16 r s)

/-- `subw16(ya, w)`: 16-bit subtraction without borrow in; writes N V H Z C; H says that there is no borrow into the
bit H16_BIT (44_word16.md R392, D17, log 14). -/
def subw16 (ya w : Word) (s : State) : Word × State :=
  let r := ya - w
  let half := 2 ^ (s.cfg.h16Bit.val + 1)
  let s := s.setFlag .c (decide (w.toNat ≤ ya.toNat))
  let s := s.setFlag .h (decide (w.toNat % half ≤ ya.toNat % half))
  let s := s.setFlag .v (ya.msb != w.msb && r.msb != ya.msb)
  (r, setNZ16 r s)

/-- The comparison of CMPW: writes N Z, and C where CMPW_WRITES_C says so (44_word16.md R399, D22, log 16). -/
def cmpw16 (ya w : Word) (s : State) : State :=
  let s := setNZ16 (ya - w) s
  if s.cfg.cmpwWritesC then s.setFlag .c (decide (w.toNat ≤ ya.toNat)) else s

/-- N and Z of MUL, from the product or from its high byte by MUL_FLAGS (45_muldiv_decimal.md R410, D18, log 15). -/
def mulFlags16 (p : Word) (s : State) : State :=
  match s.cfg.mulFlags with
  | .ya => setNZ16 p s
  | .y => setNZ8 (hiByte p) s

/-- What DIV gives: the quotient for A, the remainder for Y, the flags V and H. -/
structure DivResult where
  quotient : Byte
  remainder : Byte
  overflow : Bool
  half : Bool
  deriving DecidableEq, Repr

/-- `div8(y, a, x)` (45_muldiv_decimal.md R411, D19). Where the quotient does not fit (y ≥ x, which includes x = 0) the
quotient and the remainder are the free value `Config.divOverflow` (log 20); H is always the free value `Config.divH`
(log 21). -/
def div8 (y a x : Byte) : DivResult :=
  let ya := 256 * y.toNat + a.toNat
  if y.toNat < x.toNat then
    { quotient := BitVec.ofNat 8 (ya / x.toNat), remainder := BitVec.ofNat 8 (ya % x.toNat), overflow := false,
      half := Config.divH y a x }
  else
    { quotient := (Config.divOverflow y a x).1, remainder := (Config.divOverflow y a x).2, overflow := true,
      half := Config.divH y a x }

/-- `daa(a, c, h)`: the adjusted byte and the carry (45_muldiv_decimal.md R413, D20). PRESUMED, unsafe (log 19). -/
def daa8 (a : Byte) (c h : Bool) : Byte × Bool :=
  let high := c || decide (0x99 < a.toNat)
  let a := if high then a + 0x60 else a
  let a := if h || decide (9 < a.toNat % 16) then a + 0x06 else a
  (a, high)

/-- `das(a, c, h)`: the adjusted byte and the carry (45_muldiv_decimal.md R414, D20). PRESUMED, unsafe (log 19). -/
def das8 (a : Byte) (c h : Bool) : Byte × Bool :=
  let high := !c || decide (0x99 < a.toNat)
  let a := if high then a - 0x60 else a
  let a := if !h || decide (9 < a.toNat % 16) then a - 0x06 else a
  (a, !high)

end Sys2Proof.Machine
end

