-- ==== Sys2Proof/Machine/Ops.lean ====
section
/-! DEFINITION. The named operations over memory and registers: one byte access, words, the direct page, the stack,
branches, entering and leaving the BRK handler (20_memory.md R50 to R91, 46_branch.md R430, 47_call_stack.md R473,
R475). An operation returns the new state, or the refusal of an access that the spec gives no meaning. -/

namespace Sys2Proof.Machine

/-- The address belongs to IO_REGION: the environment answers it, whatever region it lies in (20_memory.md R57, log 25). -/
def State.isIo (s : State) (addr : Addr) : Bool := s.cfg.ioRegion.contains addr

/-- The region of an address (20_memory.md R58). -/
def State.region (s : State) (addr : Addr) : Region := regionOf s.cfg.ramTop addr

/-- A read of the address has a meaning: it is in IO_REGION, in RAM or in the ROM, or the "Unusable" range acts as RAM
(20_memory.md R57, R59, R60, R61). -/
def State.readable (s : State) (addr : Addr) : Bool :=
  s.isIo addr || s.region addr != .unusable || s.cfg.unusablePolicy == .ram

/-- A write of the address has a meaning: it is in IO_REGION or in RAM, or the "Unusable" range acts as RAM
(20_memory.md R57, R59, R60, R61). -/
def State.writable (s : State) (addr : Addr) : Bool :=
  s.isIo addr || s.region addr == .ram || (s.region addr == .unusable && s.cfg.unusablePolicy == .ram)

/-- The byte that a read of the address answers: the environment's next answer in IO_REGION, else the cell
(20_memory.md R51, R57). -/
def State.byteAt (s : State) (addr : Addr) : Byte :=
  if s.isIo addr then Config.ioRead s.ioReads addr else Memory.read s.mem addr.toNat

/-- The state after a read of the address: a read of IO_REGION consumes one answer of the environment, a read of RAM or
ROM has no effect (20_memory.md R57, log 25). -/
def State.afterRead (s : State) (addr : Addr) : State :=
  if s.isIo addr then { s with ioReads := s.ioReads + 1 } else s

/-- The state after a write of the address: a write to IO_REGION is recorded and changes no cell, a write elsewhere
replaces the cell (20_memory.md R51, R57, log 25). -/
def State.afterWrite (s : State) (addr : Addr) (v : Byte) : State :=
  if s.isIo addr then { s with ioLog := s.ioLog ++ [(addr.toNat, v)] }
  else { s with mem := Memory.write s.mem addr.toNat v }

/-- `MemRead(addr, 1)` (20_memory.md R51). -/
def readByte (addr : Addr) (s : State) : Except Refusal (Byte × State) :=
  if s.readable addr then .ok (s.byteAt addr, s.afterRead addr) else .error (.unusableAccess addr)

/-- `MemWrite(addr, 1, v)` (20_memory.md R51, R60, R61). -/
def writeByte (addr : Addr) (v : Byte) (s : State) : Except Refusal State :=
  if s.writable addr then .ok (s.afterWrite addr v)
  else if s.region addr = .rom then .error (.romWrite addr)
  else .error (.unusableAccess addr)

/-- `ReadWord(a)`: low byte at a, then high byte at (a + 1) mod 65536 (20_memory.md R81). -/
def readWord (addr : Addr) (s : State) : Except Refusal (Word × State) := do
  let (lo, s) ← readByte addr s
  let (hi, s) ← readByte (addr + 1) s
  return (mkWord hi lo, s)

/-- `DP(off)`: page 0 when P = 0, page 1 when P = 1 (20_memory.md R62, R68). -/
def State.dp (s : State) (off : Byte) : Addr := mkWord (if s.flag .p then 1 else 0) off

/-- `ReadWordDP(d)`: low byte at offset d, then high byte at offset (d + 1) mod 256 (20_memory.md R80). -/
def readWordDP (d : Byte) (s : State) : Except Refusal (Word × State) := do
  let (lo, s) ← readByte (s.dp d) s
  let (hi, s) ← readByte (s.dp (d + 1)) s
  return (mkWord hi lo, s)

/-- `WriteWordDP(d, w)`: low byte to offset d, then high byte to offset (d + 1) mod 256 (20_memory.md R80). -/
def writeWordDP (d : Byte) (w : Word) (s : State) : Except Refusal State := do
  let s ← writeByte (s.dp d) (loByte w) s
  writeByte (s.dp (d + 1)) (hiByte w) s

/-- The stack address `0x0100 OR SP`, in page 1 whatever P is (10_state.md R28, 20_memory.md R63). -/
def stackAddr (sp : Byte) : Addr := mkWord 1 sp

/-- `Push8(v)`: store at the stack address, then decrement SP modulo 256 (20_memory.md R83). -/
def push8 (v : Byte) (s : State) : Except Refusal State := do
  let s ← writeByte (stackAddr s.sp) v s
  return { s with sp := s.sp - 1 }

/-- `Pop8()`: increment SP modulo 256, then read at the stack address (20_memory.md R84). -/
def pop8 (s : State) : Except Refusal (Byte × State) :=
  readByte (stackAddr (s.sp + 1)) { s with sp := s.sp + 1 }

/-- `PushPC()`: PCH, then PCL (20_memory.md R85). -/
def pushPc (s : State) : Except Refusal State := do
  let s ← push8 (hiByte s.pc) s
  push8 (loByte s.pc) s

/-- `PopPC()`: PCL, then PCH (20_memory.md R85). -/
def popPc (s : State) : Except Refusal State := do
  let (lo, s) ← pop8 s
  let (hi, s) ← pop8 s
  return { s with pc := mkWord hi lo }

/-- Entering the BRK handler, the only trap of the CPU: push PCH, PCL and the PSW as it is, then B <- 1, I <- 0 and
pc <- the word at BRK_VECTOR (47_call_stack.md R473, 60_exceptions.md R603, logs 6, 22). -/
def enterBreak (s : State) : Except Refusal State := do
  let s ← pushPc s
  let s ← push8 s.psw s
  let s := (s.setFlag .b true).setFlag .i false
  let (target, s) ← readWord s.cfg.brkVector s
  return { s with pc := target }

/-- Leaving the handler: the PSW, then PCL, then PCH come from the stack (47_call_stack.md R475, 60_exceptions.md R604,
log 22). -/
def leaveBreak (s : State) : Except Refusal State := do
  let (psw, s) ← pop8 s
  popPc { s with psw := psw }

/-- `Branch(rel)`: the offset counts from the next instruction, which pc already names, modulo 65536
(46_branch.md R430, log 12). -/
def State.branch (s : State) (rel : Byte) : State := { s with pc := s.pc + sext16 rel }

/-- `if condition then Branch(rel)` (46_branch.md R432 to R445). -/
def State.branchIf (s : State) (condition : Bool) (rel : Byte) : State := if condition then s.branch rel else s

/-- The three data registers. -/
inductive Reg where
  | a | x | y
  deriving DecidableEq, Repr

/-- The value of a data register. -/
def State.reg (s : State) : Reg → Byte
  | .a => s.a
  | .x => s.x
  | .y => s.y

/-- The state with a data register written. -/
def State.setReg (s : State) (r : Reg) (v : Byte) : State :=
  match r with
  | .a => { s with a := v }
  | .x => { s with x := v }
  | .y => { s with y := v }

/-- YA, the pair Y:A (10_state.md R24). -/
def State.ya (s : State) : Word := mkWord s.y s.a

/-- The state with YA written: A takes bits 7..0, Y bits 15..8 (10_state.md R24). -/
def State.setYa (s : State) (w : Word) : State := { s with a := loByte w, y := hiByte w }

/-- The outcome of an instruction: the state that its operations reach, or the refusal of one of them. No instruction
ends in a fault (60_exceptions.md R600, R601). -/
def complete : Except Refusal State → Result
  | .ok s => .next s
  | .error r => .refused r

end Sys2Proof.Machine
end

