-- ==== Sys2Proof/Machine/Operands.lean ====
section
/-! DEFINITION. Every operand form (20_memory.md R68 to R82, R86) and the shapes that instructions share: load, store,
operate into a register, operate into memory, read-modify-write. -/

namespace Sys2Proof.Machine

/-- The memory operand forms of an 8-bit operand (20_memory.md R69 to R79). `d` is a direct-page offset. -/
inductive Mode where
  /-- `(X)` (R72). -/
  | indX
  /-- `(Y)`, the source of the `(X),(Y)` forms (R73). -/
  | indY
  /-- `dp` (R69). -/
  | dp (d : Byte)
  /-- `dp+X` (R70). -/
  | dpPlusX (d : Byte)
  /-- `dp+Y` (R71). -/
  | dpPlusY (d : Byte)
  /-- `!abs` (R75), and the byte of a mem.bit operand (R82). -/
  | abs (addr : Addr)
  /-- `!abs+X` (R76). -/
  | absPlusX (addr : Addr)
  /-- `!abs+Y` (R77). -/
  | absPlusY (addr : Addr)
  /-- `(dp+X)` (R78). -/
  | indDpX (d : Byte)
  /-- `(dp)+Y` (R79). -/
  | indDpPlusY (d : Byte)
  deriving DecidableEq, Repr

/-- An 8-bit source operand: an immediate byte (30_encoding.md R103) or a byte of memory. -/
inductive Operand where
  | imm (v : Byte)
  | mem (m : Mode)
  deriving DecidableEq, Repr

/-- The effective address of a memory operand, and the state after the accesses that computing it makes: the pointer
reads of `(dp+X)` and `(dp)+Y` (20_memory.md R69 to R79, log 11). -/
def ea (m : Mode) (s : State) : Except Refusal (Addr × State) :=
  match m with
  | .indX => .ok (s.dp s.x, s)
  | .indY => .ok (s.dp s.y, s)
  | .dp d => .ok (s.dp d, s)
  | .dpPlusX d => .ok (s.dp (d + s.x), s)
  | .dpPlusY d => .ok (s.dp (d + s.y), s)
  | .abs addr => .ok (addr, s)
  | .absPlusX addr => .ok (addr + zext16 s.x, s)
  | .absPlusY addr => .ok (addr + zext16 s.y, s)
  | .indDpX d => readWordDP (d + s.x) s
  | .indDpPlusY d => do
    let (pointer, s) ← readWordDP d s
    return (pointer + zext16 s.y, s)

/-- The byte of a memory operand. -/
def readMode (m : Mode) (s : State) : Except Refusal (Byte × State) := do
  let (addr, s) ← ea m s
  readByte addr s

/-- The byte of a source operand. -/
def readOperand (o : Operand) (s : State) : Except Refusal (Byte × State) :=
  match o with
  | .imm v => .ok (v, s)
  | .mem m => readMode m s

/-- Load a register: `m = operand; reg <- m; setNZ8(m)` (40_mov8.md R201 to R218). -/
def loadReg (r : Reg) (o : Operand) (s : State) : Result := complete do
  let (m, s) ← readOperand o s
  return setNZ8 m (s.setReg r m)

/-- Store a register: `MemWrite(a, 1, reg)`; no read of the destination, no flag (40_mov8.md R219 to R233). -/
def storeReg (m : Mode) (r : Reg) (s : State) : Result := complete do
  let (addr, s) ← ea m s
  writeByte addr (s.reg r) s

/-- `A <- op(A, operand)` (41_arith8.md R254 to R274, 42_logic8.md R301 to R333). -/
def operateA (op : Byte → Byte → State → Byte × State) (o : Operand) (s : State) : Result := complete do
  let (m, s) ← readOperand o s
  let (r, s) := op s.a m s
  return { s with a := r }

/-- `destination <- op(destination, source)`, both in memory or the source immediate. The source is read first
(41_arith8.md R253, R263 to R277, 42_logic8.md R310 to R336). -/
def operateMem (op : Byte → Byte → State → Byte × State) (dst : Mode) (src : Operand) (s : State) : Result :=
  complete do
    let (m, s) ← readOperand src s
    let (addr, s) ← ea dst s
    let (d, s) ← readByte addr s
    let (r, s) := op d m s
    writeByte addr r s

/-- Compare a register with an operand (41_arith8.md R278 to R286, R290 to R295). -/
def compareReg (r : Reg) (o : Operand) (s : State) : Result := complete do
  let (m, s) ← readOperand o s
  return cmp8 (s.reg r) m s

/-- Compare a memory operand with a second operand; the second is read first, nothing is written
(41_arith8.md R253, R287 to R289). -/
def compareMem (dst : Mode) (src : Operand) (s : State) : Result := complete do
  let (m, s) ← readOperand src s
  let (d, s) ← readMode dst s
  return cmp8 d m s

/-- `reg <- op(reg)` (43_incdec_shift.md R355 to R383). -/
def modifyReg (op : Byte → State → Byte × State) (r : Reg) (s : State) : Result :=
  let (v, s) := op (s.reg r) s
  .next (s.setReg r v)

/-- Read-modify-write of a memory operand: one read and one write of the same address
(43_incdec_shift.md R356 to R382, 48_bit.md R501 to R512). -/
def modifyMem (op : Byte → State → Byte × State) (m : Mode) (s : State) : Result := complete do
  let (addr, s) ← ea m s
  let (v, s) ← readByte addr s
  let (r, s) := op v s
  writeByte addr r s

/-- `reg <- value; setNZ8(value)` for a move between registers (40_mov8.md R234 to R238). -/
def moveReg (r : Reg) (v : Byte) (s : State) : Result := .next (setNZ8 v (s.setReg r v))

/-- `C <- f(C, m[bit])` for a bit of a memory byte (48_bit.md R505 to R511). -/
def carryBit (f : Bool → Bool → Bool) (addr : Addr) (bit : Nat) (s : State) : Result := complete do
  let (m, s) ← readByte addr s
  return s.setFlag .c (f (s.flag .c) (testBit8 m bit))

/-- Branch if a condition of a direct-page byte holds (46_branch.md R440 to R443). -/
def branchOnByte (test : Byte → State → Bool) (m : Mode) (rel : Byte) (s : State) : Result := complete do
  let (v, s) ← readMode m s
  return s.branchIf (test v s) rel

/-- `YA <- op(YA, word)` for a direct-page word (44_word16.md R397, R398). -/
def operateYa (op : Word → Word → State → Word × State) (d : Byte) (s : State) : Result := complete do
  let (w, s) ← readWordDP d s
  let (r, s) := op s.ya w s
  return s.setYa r

/-- Read-modify-write of a direct-page word (44_word16.md R395, R396). -/
def modifyWordDP (f : Word → Word) (d : Byte) (s : State) : Result := complete do
  let (w, s) ← readWordDP d s
  let s ← writeWordDP d (f w) s
  return setNZ16 (f w) s

/-- Push a byte (47_call_stack.md R476 to R479). -/
def pushByte (v : Byte) (s : State) : Result := complete (push8 v s)

/-- Pop a byte into a data register; no flag is changed (47_call_stack.md R480 to R482). -/
def popReg (r : Reg) (s : State) : Result := complete do
  let (v, s) ← pop8 s
  return s.setReg r v

/-- The test of TSET1 and TCLR1, chosen by TSET_TEST (48_bit.md R503, R504, D21, log 18). -/
def testAgainstA (m : Byte) (s : State) : State :=
  match s.cfg.tsetTest with
  | .sub => setNZ8 (s.a - m) s
  | .and => setNZ8 (s.a &&& m) s

end Sys2Proof.Machine
end

