-- ==== Sys2Proof/Machine/Arith8.lean ====
section
/-! DEFINITION. ADC, SBC and CMP (41_arith8.md R254 to R295).
A meaning starts with pc already past the instruction (10_state.md R26). -/

namespace Sys2Proof.Machine

/-- `ADC A,#inm` (R254). -/
def execAdcAImm (imm : Byte) (s : State) : Result := operateA adc8 (.imm imm) s

/-- `ADC A,(X)` (R255). -/
def execAdcAIndX (s : State) : Result := operateA adc8 (.mem .indX) s

/-- `ADC A,dp` (R256). -/
def execAdcADp (d : Byte) (s : State) : Result := operateA adc8 (.mem (.dp d)) s

/-- `ADC A,dp+X` (R257). -/
def execAdcADpPlusX (d : Byte) (s : State) : Result := operateA adc8 (.mem (.dpPlusX d)) s

/-- `ADC A,!abs` (R258). -/
def execAdcAAbs (addr : Addr) (s : State) : Result := operateA adc8 (.mem (.abs addr)) s

/-- `ADC A,!abs+X` (R259). -/
def execAdcAAbsPlusX (addr : Addr) (s : State) : Result := operateA adc8 (.mem (.absPlusX addr)) s

/-- `ADC A,!abs+Y` (R260). -/
def execAdcAAbsPlusY (addr : Addr) (s : State) : Result := operateA adc8 (.mem (.absPlusY addr)) s

/-- `ADC A,(dp+X)` (R261). -/
def execAdcAIndDpX (d : Byte) (s : State) : Result := operateA adc8 (.mem (.indDpX d)) s

/-- `ADC A,(dp)+Y` (R262). -/
def execAdcAIndDpPlusY (d : Byte) (s : State) : Result := operateA adc8 (.mem (.indDpPlusY d)) s

/-- `ADC (X),(Y)` (R263). -/
def execAdcIndXIndY (s : State) : Result := operateMem adc8 .indX (.mem .indY) s

/-- `ADC dp(d),dp(s)` (R264). -/
def execAdcDpDp (dst : Byte) (src : Byte) (s : State) : Result := operateMem adc8 (.dp dst) (.mem (.dp src)) s

/-- `ADC dp,#inm` (R265). -/
def execAdcDpImm (d : Byte) (imm : Byte) (s : State) : Result := operateMem adc8 (.dp d) (.imm imm) s

/-- `SBC A,#inm` (R266). -/
def execSbcAImm (imm : Byte) (s : State) : Result := operateA sbc8 (.imm imm) s

/-- `SBC A,(X)` (R267). -/
def execSbcAIndX (s : State) : Result := operateA sbc8 (.mem .indX) s

/-- `SBC A,dp` (R268). -/
def execSbcADp (d : Byte) (s : State) : Result := operateA sbc8 (.mem (.dp d)) s

/-- `SBC A,dp+X` (R269). -/
def execSbcADpPlusX (d : Byte) (s : State) : Result := operateA sbc8 (.mem (.dpPlusX d)) s

/-- `SBC A,!abs` (R270). -/
def execSbcAAbs (addr : Addr) (s : State) : Result := operateA sbc8 (.mem (.abs addr)) s

/-- `SBC A,!abs+X` (R271). -/
def execSbcAAbsPlusX (addr : Addr) (s : State) : Result := operateA sbc8 (.mem (.absPlusX addr)) s

/-- `SBC A,!abs+Y` (R272). -/
def execSbcAAbsPlusY (addr : Addr) (s : State) : Result := operateA sbc8 (.mem (.absPlusY addr)) s

/-- `SBC A,(dp+X)` (R273). -/
def execSbcAIndDpX (d : Byte) (s : State) : Result := operateA sbc8 (.mem (.indDpX d)) s

/-- `SBC A,(dp)+Y` (R274). -/
def execSbcAIndDpPlusY (d : Byte) (s : State) : Result := operateA sbc8 (.mem (.indDpPlusY d)) s

/-- `SBC (X),(Y)` (R275). -/
def execSbcIndXIndY (s : State) : Result := operateMem sbc8 .indX (.mem .indY) s

/-- `SBC dp(d),dp(s)` (R276). -/
def execSbcDpDp (dst : Byte) (src : Byte) (s : State) : Result := operateMem sbc8 (.dp dst) (.mem (.dp src)) s

/-- `SBC dp,#inm` (R277). -/
def execSbcDpImm (d : Byte) (imm : Byte) (s : State) : Result := operateMem sbc8 (.dp d) (.imm imm) s

/-- `CMP A,#inm` (R278). -/
def execCmpAImm (imm : Byte) (s : State) : Result := compareReg .a (.imm imm) s

/-- `CMP A,(X)` (R279). -/
def execCmpAIndX (s : State) : Result := compareReg .a (.mem .indX) s

/-- `CMP A,dp` (R280). -/
def execCmpADp (d : Byte) (s : State) : Result := compareReg .a (.mem (.dp d)) s

/-- `CMP A,dp+X` (R281). -/
def execCmpADpPlusX (d : Byte) (s : State) : Result := compareReg .a (.mem (.dpPlusX d)) s

/-- `CMP A,!abs` (R282). -/
def execCmpAAbs (addr : Addr) (s : State) : Result := compareReg .a (.mem (.abs addr)) s

/-- `CMP A,!abs+X` (R283). -/
def execCmpAAbsPlusX (addr : Addr) (s : State) : Result := compareReg .a (.mem (.absPlusX addr)) s

/-- `CMP A,!abs+Y` (R284). -/
def execCmpAAbsPlusY (addr : Addr) (s : State) : Result := compareReg .a (.mem (.absPlusY addr)) s

/-- `CMP A,(dp+X)` (R285). -/
def execCmpAIndDpX (d : Byte) (s : State) : Result := compareReg .a (.mem (.indDpX d)) s

/-- `CMP A,(dp)+Y` (R286). -/
def execCmpAIndDpPlusY (d : Byte) (s : State) : Result := compareReg .a (.mem (.indDpPlusY d)) s

/-- `CMP (X),(Y)` (R287). -/
def execCmpIndXIndY (s : State) : Result := compareMem .indX (.mem .indY) s

/-- `CMP dp(d),dp(s)` (R288). -/
def execCmpDpDp (dst : Byte) (src : Byte) (s : State) : Result := compareMem (.dp dst) (.mem (.dp src)) s

/-- `CMP dp,#inm` (R289). -/
def execCmpDpImm (d : Byte) (imm : Byte) (s : State) : Result := compareMem (.dp d) (.imm imm) s

/-- `CMP X,#inm` (R290). -/
def execCmpXImm (imm : Byte) (s : State) : Result := compareReg .x (.imm imm) s

/-- `CMP X,dp` (R291). -/
def execCmpXDp (d : Byte) (s : State) : Result := compareReg .x (.mem (.dp d)) s

/-- `CMP X,!abs` (R292). -/
def execCmpXAbs (addr : Addr) (s : State) : Result := compareReg .x (.mem (.abs addr)) s

/-- `CMP Y,#inm` (R293). -/
def execCmpYImm (imm : Byte) (s : State) : Result := compareReg .y (.imm imm) s

/-- `CMP Y,dp` (R294). -/
def execCmpYDp (d : Byte) (s : State) : Result := compareReg .y (.mem (.dp d)) s

/-- `CMP Y,!abs` (R295). -/
def execCmpYAbs (addr : Addr) (s : State) : Result := compareReg .y (.mem (.abs addr)) s

end Sys2Proof.Machine
end

