-- ==== Sys2Proof/Machine/Bit.lean ====
section
/-! DEFINITION. SET1, CLR1, TSET1, TCLR1, AND1, OR1, EOR1, NOT1 and MOV1 (48_bit.md R501 to R512).
A meaning starts with pc already past the instruction (10_state.md R26). -/

namespace Sys2Proof.Machine

/-- `SET1 dp.bit` (R501). -/
def execSet1 (bit : Nat) (d : Byte) (s : State) : Result :=
  modifyMem (fun m s => (withBit m bit true, s)) (.dp d) s

/-- `CLR1 dp.bit` (R502). -/
def execClr1 (bit : Nat) (d : Byte) (s : State) : Result :=
  modifyMem (fun m s => (withBit m bit false, s)) (.dp d) s

/-- `TSET1 !abs` (R503); TSET_TEST (log 18). -/
def execTset1Abs (addr : Addr) (s : State) : Result :=
  modifyMem (fun m s => (m ||| s.a, testAgainstA m s)) (.abs addr) s

/-- `TCLR1 !abs` (R504); TSET_TEST (log 18). -/
def execTclr1Abs (addr : Addr) (s : State) : Result :=
  modifyMem (fun m s => (m &&& ~~~s.a, testAgainstA m s)) (.abs addr) s

/-- `AND1 C,mem.bit` (R505). -/
def execAnd1CMem (addr : Addr) (bit : Nat) (s : State) : Result := carryBit (fun c b => c && b) addr bit s

/-- `AND1 C,/mem.bit` (R506). -/
def execAnd1CNotMem (addr : Addr) (bit : Nat) (s : State) : Result := carryBit (fun c b => c && !b) addr bit s

/-- `OR1 C,mem.bit` (R507). -/
def execOr1CMem (addr : Addr) (bit : Nat) (s : State) : Result := carryBit (fun c b => c || b) addr bit s

/-- `OR1 C,/mem.bit` (R508). -/
def execOr1CNotMem (addr : Addr) (bit : Nat) (s : State) : Result := carryBit (fun c b => c || !b) addr bit s

/-- `EOR1 C,mem.bit` (R509). -/
def execEor1CMem (addr : Addr) (bit : Nat) (s : State) : Result := carryBit (fun c b => c != b) addr bit s

/-- `NOT1 mem.bit` (R510). -/
def execNot1Mem (addr : Addr) (bit : Nat) (s : State) : Result :=
  modifyMem (fun m s => (withBit m bit (!testBit8 m bit), s)) (.abs addr) s

/-- `MOV1 C,mem.bit` (R511). -/
def execMov1CMem (addr : Addr) (bit : Nat) (s : State) : Result := carryBit (fun _ b => b) addr bit s

/-- `MOV1 mem.bit,C` (R512). -/
def execMov1MemC (addr : Addr) (bit : Nat) (s : State) : Result :=
  modifyMem (fun m s => (withBit m bit (s.flag .c), s)) (.abs addr) s

end Sys2Proof.Machine
end

