-- ==== Sys2Proof/Machine/Branch.lean ====
section
/-! DEFINITION. BRA, the flag branches, BBS, BBC, CBNE, DBNZ and JMP (46_branch.md R431 to R447).
A meaning starts with pc already past the instruction (10_state.md R26). -/

namespace Sys2Proof.Machine

/-- `BRA rel` (R431). -/
def execBra (rel : Byte) (s : State) : Result := .next (s.branch rel)

/-- `BEQ rel` (R432). -/
def execBeq (rel : Byte) (s : State) : Result := .next (s.branchIf (s.flag .z) rel)

/-- `BNE rel` (R433). -/
def execBne (rel : Byte) (s : State) : Result := .next (s.branchIf (!s.flag .z) rel)

/-- `BCS rel` (R434). -/
def execBcs (rel : Byte) (s : State) : Result := .next (s.branchIf (s.flag .c) rel)

/-- `BCC rel` (R435). -/
def execBcc (rel : Byte) (s : State) : Result := .next (s.branchIf (!s.flag .c) rel)

/-- `BVS rel` (R436). -/
def execBvs (rel : Byte) (s : State) : Result := .next (s.branchIf (s.flag .v) rel)

/-- `BVC rel` (R437). -/
def execBvc (rel : Byte) (s : State) : Result := .next (s.branchIf (!s.flag .v) rel)

/-- `BMI rel` (R438). -/
def execBmi (rel : Byte) (s : State) : Result := .next (s.branchIf (s.flag .n) rel)

/-- `BPL rel` (R439). -/
def execBpl (rel : Byte) (s : State) : Result := .next (s.branchIf (!s.flag .n) rel)

/-- `BBS dp.bit,rel` (R440); no flag, no write. -/
def execBbs (bit : Nat) (d : Byte) (rel : Byte) (s : State) : Result :=
  branchOnByte (fun m _ => testBit8 m bit) (.dp d) rel s

/-- `BBC dp.bit,rel` (R441); no flag, no write. -/
def execBbc (bit : Nat) (d : Byte) (rel : Byte) (s : State) : Result :=
  branchOnByte (fun m _ => !testBit8 m bit) (.dp d) rel s

/-- `CBNE dp,rel` (R442); no flag (log 36). -/
def execCbneDp (d : Byte) (rel : Byte) (s : State) : Result :=
  branchOnByte (fun m s => s.a != m) (.dp d) rel s

/-- `CBNE dp+X,rel` (R443); no flag (log 36). -/
def execCbneDpPlusX (d : Byte) (rel : Byte) (s : State) : Result :=
  branchOnByte (fun m s => s.a != m) (.dpPlusX d) rel s

/-- `DBNZ dp,rel` (R444); no flag (log 36). -/
def execDbnzDp (d : Byte) (rel : Byte) (s : State) : Result := complete do
  let (addr, s) ← ea (.dp d) s
  let (v, s) ← readByte addr s
  let s ← writeByte addr (v - 1) s
  return s.branchIf (v - 1 != 0) rel

/-- `DBNZ Y,rel` (R445); no flag (log 36). -/
def execDbnzY (rel : Byte) (s : State) : Result :=
  let r := s.y - 1
  .next ({ s with y := r }.branchIf (r != 0) rel)

/-- `JMP !abs` (R446). -/
def execJmpAbs (addr : Addr) (s : State) : Result := .next { s with pc := addr }

/-- `JMP (!abs+X)` (R447). -/
def execJmpIndAbsPlusX (addr : Addr) (s : State) : Result := complete do
  let (addr, s) ← ea (.absPlusX addr) s
  let (target, s) ← readWord addr s
  return { s with pc := target }

end Sys2Proof.Machine
end

