-- ==== Sys2Proof/Machine/CallStack.lean ====
section
/-! DEFINITION. CALL, PCALL, TCALL, BRK, RET, RET1, PUSH and POP (47_call_stack.md R470 to R483).
A meaning starts with pc already past the instruction (10_state.md R26). -/

namespace Sys2Proof.Machine

/-- `CALL !abs` (R470). -/
def execCallAbs (addr : Addr) (s : State) : Result := complete do
  let s ← pushPc s
  return { s with pc := addr }

/-- `PCALL upage` (R471); UPAGE_BASE (log 7). -/
def execPcall (upage : Byte) (s : State) : Result := complete do
  let s ← pushPc s
  return { s with pc := s.cfg.upageBase ||| zext16 upage }

/-- `TCALL n` (R472); TCALL_TABLE_TOP (log 5). -/
def execTcall (n : Nat) (s : State) : Result := complete do
  let s ← pushPc s
  let (target, s) ← readWord (s.cfg.tcallTop - BitVec.ofNat 16 (2 * n)) s
  return { s with pc := target }

/-- `BRK` (R473); the exception entry (logs 6, 22). -/
def execBrk (s : State) : Result := complete (enterBreak s)

/-- `RET` (R474). -/
def execRet (s : State) : Result := complete (popPc s)

/-- `RET1` (R475); the return from the exception (log 22). -/
def execRet1 (s : State) : Result := complete (leaveBreak s)

/-- `PUSH A` (R476). -/
def execPushA (s : State) : Result := pushByte s.a s

/-- `PUSH X` (R477). -/
def execPushX (s : State) : Result := pushByte s.x s

/-- `PUSH Y` (R478). -/
def execPushY (s : State) : Result := pushByte s.y s

/-- `PUSH PSW` (R479). -/
def execPushPsw (s : State) : Result := pushByte s.psw s

/-- `POP A` (R480); no flag. -/
def execPopA (s : State) : Result := popReg .a s

/-- `POP X` (R481); no flag. -/
def execPopX (s : State) : Result := popReg .x s

/-- `POP Y` (R482); no flag. -/
def execPopY (s : State) : Result := popReg .y s

/-- `POP PSW` (R483); all eight flags. -/
def execPopPsw (s : State) : Result := complete do
  let (v, s) ← pop8 s
  return { s with psw := v }

end Sys2Proof.Machine
end

