-- ==== Sys2Proof/Machine/IncDecShift.lean ====
section
/-! DEFINITION. INC, DEC, ASL, LSR, ROL, ROR and XCN (43_incdec_shift.md R355 to R383).
A meaning starts with pc already past the instruction (10_state.md R26). -/

namespace Sys2Proof.Machine

/-- `INC A` (R355). -/
def execIncA (s : State) : Result := modifyReg inc8 .a s

/-- `INC dp` (R356). -/
def execIncDp (d : Byte) (s : State) : Result := modifyMem inc8 (.dp d) s

/-- `INC dp+X` (R357). -/
def execIncDpPlusX (d : Byte) (s : State) : Result := modifyMem inc8 (.dpPlusX d) s

/-- `INC !abs` (R358). -/
def execIncAbs (addr : Addr) (s : State) : Result := modifyMem inc8 (.abs addr) s

/-- `INC X` (R359). -/
def execIncX (s : State) : Result := modifyReg inc8 .x s

/-- `INC Y` (R360). -/
def execIncY (s : State) : Result := modifyReg inc8 .y s

/-- `DEC A` (R361). -/
def execDecA (s : State) : Result := modifyReg dec8 .a s

/-- `DEC dp` (R362). -/
def execDecDp (d : Byte) (s : State) : Result := modifyMem dec8 (.dp d) s

/-- `DEC dp+X` (R363). -/
def execDecDpPlusX (d : Byte) (s : State) : Result := modifyMem dec8 (.dpPlusX d) s

/-- `DEC !abs` (R364). -/
def execDecAbs (addr : Addr) (s : State) : Result := modifyMem dec8 (.abs addr) s

/-- `DEC X` (R365). -/
def execDecX (s : State) : Result := modifyReg dec8 .x s

/-- `DEC Y` (R366). -/
def execDecY (s : State) : Result := modifyReg dec8 .y s

/-- `ASL A` (R367). -/
def execAslA (s : State) : Result := modifyReg asl8 .a s

/-- `ASL dp` (R368). -/
def execAslDp (d : Byte) (s : State) : Result := modifyMem asl8 (.dp d) s

/-- `ASL dp+X` (R369). -/
def execAslDpPlusX (d : Byte) (s : State) : Result := modifyMem asl8 (.dpPlusX d) s

/-- `ASL !abs` (R370). -/
def execAslAbs (addr : Addr) (s : State) : Result := modifyMem asl8 (.abs addr) s

/-- `LSR A` (R371). -/
def execLsrA (s : State) : Result := modifyReg lsr8 .a s

/-- `LSR dp` (R372). -/
def execLsrDp (d : Byte) (s : State) : Result := modifyMem lsr8 (.dp d) s

/-- `LSR dp+X` (R373). -/
def execLsrDpPlusX (d : Byte) (s : State) : Result := modifyMem lsr8 (.dpPlusX d) s

/-- `LSR !abs` (R374). -/
def execLsrAbs (addr : Addr) (s : State) : Result := modifyMem lsr8 (.abs addr) s

/-- `ROL A` (R375). -/
def execRolA (s : State) : Result := modifyReg rol8 .a s

/-- `ROL dp` (R376). -/
def execRolDp (d : Byte) (s : State) : Result := modifyMem rol8 (.dp d) s

/-- `ROL dp+X` (R377). -/
def execRolDpPlusX (d : Byte) (s : State) : Result := modifyMem rol8 (.dpPlusX d) s

/-- `ROL !abs` (R378). -/
def execRolAbs (addr : Addr) (s : State) : Result := modifyMem rol8 (.abs addr) s

/-- `ROR A` (R379). -/
def execRorA (s : State) : Result := modifyReg ror8 .a s

/-- `ROR dp` (R380). -/
def execRorDp (d : Byte) (s : State) : Result := modifyMem ror8 (.dp d) s

/-- `ROR dp+X` (R381). -/
def execRorDpPlusX (d : Byte) (s : State) : Result := modifyMem ror8 (.dpPlusX d) s

/-- `ROR !abs` (R382). -/
def execRorAbs (addr : Addr) (s : State) : Result := modifyMem ror8 (.abs addr) s

/-- `XCN A` (R383). -/
def execXcnA (s : State) : Result := modifyReg xcn8 .a s

end Sys2Proof.Machine
end

