-- ==== Sys2Proof/Machine/Logic8.lean ====
section
/-! DEFINITION. AND, OR and EOR (42_logic8.md R301 to R336).
A meaning starts with pc already past the instruction (10_state.md R26). -/

namespace Sys2Proof.Machine

/-- `AND A,#inm` (R301). -/
def execAndAImm (imm : Byte) (s : State) : Result := operateA and8 (.imm imm) s

/-- `AND A,(X)` (R302). -/
def execAndAIndX (s : State) : Result := operateA and8 (.mem .indX) s

/-- `AND A,dp` (R303). -/
def execAndADp (d : Byte) (s : State) : Result := operateA and8 (.mem (.dp d)) s

/-- `AND A,dp+X` (R304). -/
def execAndADpPlusX (d : Byte) (s : State) : Result := operateA and8 (.mem (.dpPlusX d)) s

/-- `AND A,!abs` (R305). -/
def execAndAAbs (addr : Addr) (s : State) : Result := operateA and8 (.mem (.abs addr)) s

/-- `AND A,!abs+X` (R306). -/
def execAndAAbsPlusX (addr : Addr) (s : State) : Result := operateA and8 (.mem (.absPlusX addr)) s

/-- `AND A,!abs+Y` (R307). -/
def execAndAAbsPlusY (addr : Addr) (s : State) : Result := operateA and8 (.mem (.absPlusY addr)) s

/-- `AND A,(dp+X)` (R308). -/
def execAndAIndDpX (d : Byte) (s : State) : Result := operateA and8 (.mem (.indDpX d)) s

/-- `AND A,(dp)+Y` (R309). -/
def execAndAIndDpPlusY (d : Byte) (s : State) : Result := operateA and8 (.mem (.indDpPlusY d)) s

/-- `AND (X),(Y)` (R310). -/
def execAndIndXIndY (s : State) : Result := operateMem and8 .indX (.mem .indY) s

/-- `AND dp(d),dp(s)` (R311). -/
def execAndDpDp (dst : Byte) (src : Byte) (s : State) : Result := operateMem and8 (.dp dst) (.mem (.dp src)) s

/-- `AND dp,#inm` (R312). -/
def execAndDpImm (d : Byte) (imm : Byte) (s : State) : Result := operateMem and8 (.dp d) (.imm imm) s

/-- `OR A,#inm` (R313). -/
def execOrAImm (imm : Byte) (s : State) : Result := operateA or8 (.imm imm) s

/-- `OR A,(X)` (R314). -/
def execOrAIndX (s : State) : Result := operateA or8 (.mem .indX) s

/-- `OR A,dp` (R315). -/
def execOrADp (d : Byte) (s : State) : Result := operateA or8 (.mem (.dp d)) s

/-- `OR A,dp+X` (R316). -/
def execOrADpPlusX (d : Byte) (s : State) : Result := operateA or8 (.mem (.dpPlusX d)) s

/-- `OR A,!abs` (R317). -/
def execOrAAbs (addr : Addr) (s : State) : Result := operateA or8 (.mem (.abs addr)) s

/-- `OR A,!abs+X` (R318). -/
def execOrAAbsPlusX (addr : Addr) (s : State) : Result := operateA or8 (.mem (.absPlusX addr)) s

/-- `OR A,!abs+Y` (R319). -/
def execOrAAbsPlusY (addr : Addr) (s : State) : Result := operateA or8 (.mem (.absPlusY addr)) s

/-- `OR A,(dp+X)` (R320). -/
def execOrAIndDpX (d : Byte) (s : State) : Result := operateA or8 (.mem (.indDpX d)) s

/-- `OR A,(dp)+Y` (R321). -/
def execOrAIndDpPlusY (d : Byte) (s : State) : Result := operateA or8 (.mem (.indDpPlusY d)) s

/-- `OR (X),(Y)` (R322). -/
def execOrIndXIndY (s : State) : Result := operateMem or8 .indX (.mem .indY) s

/-- `OR dp(d),dp(s)` (R323). -/
def execOrDpDp (dst : Byte) (src : Byte) (s : State) : Result := operateMem or8 (.dp dst) (.mem (.dp src)) s

/-- `OR dp,#inm` (R324). -/
def execOrDpImm (d : Byte) (imm : Byte) (s : State) : Result := operateMem or8 (.dp d) (.imm imm) s

/-- `EOR A,#inm` (R325). -/
def execEorAImm (imm : Byte) (s : State) : Result := operateA eor8 (.imm imm) s

/-- `EOR A,(X)` (R326). -/
def execEorAIndX (s : State) : Result := operateA eor8 (.mem .indX) s

/-- `EOR A,dp` (R327). -/
def execEorADp (d : Byte) (s : State) : Result := operateA eor8 (.mem (.dp d)) s

/-- `EOR A,dp+X` (R328). -/
def execEorADpPlusX (d : Byte) (s : State) : Result := operateA eor8 (.mem (.dpPlusX d)) s

/-- `EOR A,!abs` (R329). -/
def execEorAAbs (addr : Addr) (s : State) : Result := operateA eor8 (.mem (.abs addr)) s

/-- `EOR A,!abs+X` (R330). -/
def execEorAAbsPlusX (addr : Addr) (s : State) : Result := operateA eor8 (.mem (.absPlusX addr)) s

/-- `EOR A,!abs+Y` (R331). -/
def execEorAAbsPlusY (addr : Addr) (s : State) : Result := operateA eor8 (.mem (.absPlusY addr)) s

/-- `EOR A,(dp+X)` (R332). -/
def execEorAIndDpX (d : Byte) (s : State) : Result := operateA eor8 (.mem (.indDpX d)) s

/-- `EOR A,(dp)+Y` (R333). -/
def execEorAIndDpPlusY (d : Byte) (s : State) : Result := operateA eor8 (.mem (.indDpPlusY d)) s

/-- `EOR (X),(Y)` (R334). -/
def execEorIndXIndY (s : State) : Result := operateMem eor8 .indX (.mem .indY) s

/-- `EOR dp(d),dp(s)` (R335). -/
def execEorDpDp (dst : Byte) (src : Byte) (s : State) : Result := operateMem eor8 (.dp dst) (.mem (.dp src)) s

/-- `EOR dp,#inm` (R336). -/
def execEorDpImm (d : Byte) (imm : Byte) (s : State) : Result := operateMem eor8 (.dp d) (.imm imm) s

end Sys2Proof.Machine
end

