-- ==== Sys2Proof/Machine/Mov8.lean ====
section
/-! DEFINITION. The 41 MOV instructions (40_mov8.md R201 to R241).
A meaning starts with pc already past the instruction (10_state.md R26). -/

namespace Sys2Proof.Machine

/-- `MOV A,#inm` (R201). -/
def execMovAImm (imm : Byte) (s : State) : Result := loadReg .a (.imm imm) s

/-- `MOV A,(X)` (R202). -/
def execMovAIndX (s : State) : Result := loadReg .a (.mem .indX) s

/-- `MOV A,(X)+` (R203); X is incremented after the read (20_memory.md R74, log 35). -/
def execMovAIndXInc (s : State) : Result := complete do
  let (m, s) ← readMode .indX s
  return setNZ8 m { s with x := s.x + 1, a := m }

/-- `MOV A,dp` (R204). -/
def execMovADp (d : Byte) (s : State) : Result := loadReg .a (.mem (.dp d)) s

/-- `MOV A,dp+X` (R205). -/
def execMovADpPlusX (d : Byte) (s : State) : Result := loadReg .a (.mem (.dpPlusX d)) s

/-- `MOV A,!abs` (R206). -/
def execMovAAbs (addr : Addr) (s : State) : Result := loadReg .a (.mem (.abs addr)) s

/-- `MOV A,!abs+X` (R207). -/
def execMovAAbsPlusX (addr : Addr) (s : State) : Result := loadReg .a (.mem (.absPlusX addr)) s

/-- `MOV A,!abs+Y` (R208). -/
def execMovAAbsPlusY (addr : Addr) (s : State) : Result := loadReg .a (.mem (.absPlusY addr)) s

/-- `MOV A,(dp+X)` (R209). -/
def execMovAIndDpX (d : Byte) (s : State) : Result := loadReg .a (.mem (.indDpX d)) s

/-- `MOV A,(dp)+Y` (R210). -/
def execMovAIndDpPlusY (d : Byte) (s : State) : Result := loadReg .a (.mem (.indDpPlusY d)) s

/-- `MOV X,#inm` (R211). -/
def execMovXImm (imm : Byte) (s : State) : Result := loadReg .x (.imm imm) s

/-- `MOV X,dp` (R212). -/
def execMovXDp (d : Byte) (s : State) : Result := loadReg .x (.mem (.dp d)) s

/-- `MOV X,dp+Y` (R213). -/
def execMovXDpPlusY (d : Byte) (s : State) : Result := loadReg .x (.mem (.dpPlusY d)) s

/-- `MOV X,!abs` (R214). -/
def execMovXAbs (addr : Addr) (s : State) : Result := loadReg .x (.mem (.abs addr)) s

/-- `MOV Y,#inm` (R215). -/
def execMovYImm (imm : Byte) (s : State) : Result := loadReg .y (.imm imm) s

/-- `MOV Y,dp` (R216). -/
def execMovYDp (d : Byte) (s : State) : Result := loadReg .y (.mem (.dp d)) s

/-- `MOV Y,dp+X` (R217). -/
def execMovYDpPlusX (d : Byte) (s : State) : Result := loadReg .y (.mem (.dpPlusX d)) s

/-- `MOV Y,!abs` (R218). -/
def execMovYAbs (addr : Addr) (s : State) : Result := loadReg .y (.mem (.abs addr)) s

/-- `MOV (X),A` (R219). -/
def execMovIndXA (s : State) : Result := storeReg .indX .a s

/-- `MOV (X)+,A` (R220); X is incremented after the write (20_memory.md R74, log 35). -/
def execMovIndXIncA (s : State) : Result := complete do
  let (addr, s) ← ea .indX s
  let s ← writeByte addr s.a s
  return { s with x := s.x + 1 }

/-- `MOV dp,A` (R221). -/
def execMovDpA (d : Byte) (s : State) : Result := storeReg (.dp d) .a s

/-- `MOV dp+X,A` (R222). -/
def execMovDpPlusXA (d : Byte) (s : State) : Result := storeReg (.dpPlusX d) .a s

/-- `MOV !abs,A` (R223). -/
def execMovAbsA (addr : Addr) (s : State) : Result := storeReg (.abs addr) .a s

/-- `MOV !abs+X,A` (R224). -/
def execMovAbsPlusXA (addr : Addr) (s : State) : Result := storeReg (.absPlusX addr) .a s

/-- `MOV !abs+Y,A` (R225). -/
def execMovAbsPlusYA (addr : Addr) (s : State) : Result := storeReg (.absPlusY addr) .a s

/-- `MOV (dp+X),A` (R226). -/
def execMovIndDpXA (d : Byte) (s : State) : Result := storeReg (.indDpX d) .a s

/-- `MOV (dp)+Y,A` (R227). -/
def execMovIndDpPlusYA (d : Byte) (s : State) : Result := storeReg (.indDpPlusY d) .a s

/-- `MOV dp,X` (R228). -/
def execMovDpX (d : Byte) (s : State) : Result := storeReg (.dp d) .x s

/-- `MOV dp+Y,X` (R229). -/
def execMovDpPlusYX (d : Byte) (s : State) : Result := storeReg (.dpPlusY d) .x s

/-- `MOV !abs,X` (R230). -/
def execMovAbsX (addr : Addr) (s : State) : Result := storeReg (.abs addr) .x s

/-- `MOV dp,Y` (R231). -/
def execMovDpY (d : Byte) (s : State) : Result := storeReg (.dp d) .y s

/-- `MOV dp+X,Y` (R232). -/
def execMovDpPlusXY (d : Byte) (s : State) : Result := storeReg (.dpPlusX d) .y s

/-- `MOV !abs,Y` (R233). -/
def execMovAbsY (addr : Addr) (s : State) : Result := storeReg (.abs addr) .y s

/-- `MOV A,X` (R234). -/
def execMovAX (s : State) : Result := moveReg .a s.x s

/-- `MOV A,Y` (R235). -/
def execMovAY (s : State) : Result := moveReg .a s.y s

/-- `MOV X,A` (R236). -/
def execMovXA (s : State) : Result := moveReg .x s.a s

/-- `MOV Y,A` (R237). -/
def execMovYA (s : State) : Result := moveReg .y s.a s

/-- `MOV X,SP` (R238). -/
def execMovXSp (s : State) : Result := moveReg .x s.sp s

/-- `MOV SP,X` (R239); no flag. -/
def execMovSpX (s : State) : Result := .next { s with sp := s.x }

/-- `MOV dp(d),dp(s)` (R240); no flag. -/
def execMovDpDp (dst : Byte) (src : Byte) (s : State) : Result := complete do
  let (m, s) ← readMode (.dp src) s
  let (addr, s) ← ea (.dp dst) s
  writeByte addr m s

/-- `MOV dp,#inm` (R241); no flag. -/
def execMovDpImm (d : Byte) (imm : Byte) (s : State) : Result := complete do
  let (addr, s) ← ea (.dp d) s
  writeByte addr imm s

end Sys2Proof.Machine
end

