-- ==== Sys2Proof/Machine/MulDiv.lean ====
section
/-! DEFINITION. MUL, DIV, DAA and DAS (45_muldiv_decimal.md R410 to R416).
A meaning starts with pc already past the instruction (10_state.md R26). -/

namespace Sys2Proof.Machine

/-- `MUL YA` (R410); N and Z by MUL_FLAGS (log 15). -/
def execMulYa (s : State) : Result :=
  let p := BitVec.ofNat 16 (s.y.toNat * s.a.toNat)
  .next (mulFlags16 p (s.setYa p))

/-- `DIV YA,X` (R412); the free values of logs 20 and 21; C is kept. -/
def execDivYaX (s : State) : Result :=
  let r := div8 s.y s.a s.x
  let s := { s with a := r.quotient, y := r.remainder }
  .next (setNZ8 r.quotient ((s.setFlag .v r.overflow).setFlag .h r.half))

/-- `DAA A` (R415) (log 19); H is read, not written. -/
def execDaaA (s : State) : Result :=
  let r := daa8 s.a (s.flag .c) (s.flag .h)
  .next (setNZ8 r.1 ({ s with a := r.1 }.setFlag .c r.2))

/-- `DAS A` (R416) (log 19); H is read, not written. -/
def execDasA (s : State) : Result :=
  let r := das8 s.a (s.flag .c) (s.flag .h)
  .next (setNZ8 r.1 ({ s with a := r.1 }.setFlag .c r.2))

end Sys2Proof.Machine
end

