-- ==== Sys2Proof/Machine/PswMisc.lean ====
section
/-! DEFINITION. The flag commands, NOP, SLEEP and STOP (49_psw_misc.md R530 to R540).
A meaning starts with pc already past the instruction (10_state.md R26). -/

namespace Sys2Proof.Machine

/-- `CLRC` (R530). -/
def execClrc (s : State) : Result := .next (s.setFlag .c false)

/-- `SETC` (R531). -/
def execSetc (s : State) : Result := .next (s.setFlag .c true)

/-- `NOTC` (R532). -/
def execNotc (s : State) : Result := .next (s.setFlag .c (!s.flag .c))

/-- `CLRV` (R533); clears V and H. -/
def execClrv (s : State) : Result := .next ((s.setFlag .v false).setFlag .h false)

/-- `CLRP` (R534). -/
def execClrp (s : State) : Result := .next (s.setFlag .p false)

/-- `SETP` (R535); I by SETP_CLEARS_I (log 17). -/
def execSetp (s : State) : Result :=
  let s := s.setFlag .p true
  .next (if s.cfg.setpClearsI then s.setFlag .i false else s)

/-- `EI` (R536); I is storage only (log 27). -/
def execEi (s : State) : Result := .next (s.setFlag .i true)

/-- `DI` (R537); I is storage only (log 27). -/
def execDi (s : State) : Result := .next (s.setFlag .i false)

/-- `NOP` (R538). -/
def execNop (s : State) : Result := .next s

/-- `SLEEP` (R539) (log 26). -/
def execSleep (s : State) : Result := .next { s with run := .sleep }

/-- `STOP` (R540) (log 26). -/
def execStop (s : State) : Result := .next { s with run := .stop }

end Sys2Proof.Machine
end

