-- ==== Sys2Proof/Machine/Word16.lean ====
section
/-! DEFINITION. MOVW, INCW, DECW, ADDW, SUBW and CMPW (44_word16.md R393 to R399).
A meaning starts with pc already past the instruction (10_state.md R26). -/

namespace Sys2Proof.Machine

/-- `MOVW YA,dp` (R393). -/
def execMovwYaDp (d : Byte) (s : State) : Result := complete do
  let (w, s) ← readWordDP d s
  return setNZ16 w (s.setYa w)

/-- `MOVW dp,YA` (R394); no flag, no read of the destination. -/
def execMovwDpYa (d : Byte) (s : State) : Result := complete (writeWordDP d s.ya s)

/-- `INCW dp` (R395). -/
def execIncwDp (d : Byte) (s : State) : Result := modifyWordDP (fun w => w + 1) d s

/-- `DECW dp` (R396). -/
def execDecwDp (d : Byte) (s : State) : Result := modifyWordDP (fun w => w - 1) d s

/-- `ADDW YA,dp` (R397). -/
def execAddwYaDp (d : Byte) (s : State) : Result := operateYa addw16 d s

/-- `SUBW YA,dp` (R398). -/
def execSubwYaDp (d : Byte) (s : State) : Result := operateYa subw16 d s

/-- `CMPW YA,dp` (R399); C by CMPW_WRITES_C (log 16). -/
def execCmpwYaDp (d : Byte) (s : State) : Result := complete do
  let (w, s) ← readWordDP d s
  return cmpw16 s.ya w s

end Sys2Proof.Machine
end

