-- ==== Sys2Proof/Syntax.lean ====
section
/-! DEFINITION. The instructions: one constructor for each of the 213 rows of the opcode table (30_encoding.md R117),
named by the mnemonic and the operands of the row's syntax (R121, R122). Destination comes before source, as the
assembler writes it (R121). -/

namespace Sys2Proof

/-- An instruction with its operands. `d`, `dst`, `src` are direct-page offsets, `imm` an immediate byte, `addr` an
absolute address or the address of a mem.bit operand, `rel` a signed branch offset, `upage` an offset in the U page,
`bit` a bit number, `n` a vector call number (30_encoding.md R115). -/
inductive Instr where
  -- 40_mov8.md
  /-- `MOV A,#inm` (R201). -/
  | movAImm (imm : Byte)
  /-- `MOV A,(X)` (R202). -/
  | movAIndX
  /-- `MOV A,(X)+` (R203). -/
  | movAIndXInc
  /-- `MOV A,dp` (R204). -/
  | movADp (d : Byte)
  /-- `MOV A,dp+X` (R205). -/
  | movADpPlusX (d : Byte)
  /-- `MOV A,!abs` (R206). -/
  | movAAbs (addr : Addr)
  /-- `MOV A,!abs+X` (R207). -/
  | movAAbsPlusX (addr : Addr)
  /-- `MOV A,!abs+Y` (R208). -/
  | movAAbsPlusY (addr : Addr)
  /-- `MOV A,(dp+X)` (R209). -/
  | movAIndDpX (d : Byte)
  /-- `MOV A,(dp)+Y` (R210). -/
  | movAIndDpPlusY (d : Byte)
  /-- `MOV X,#inm` (R211). -/
  | movXImm (imm : Byte)
  /-- `MOV X,dp` (R212). -/
  | movXDp (d : Byte)
  /-- `MOV X,dp+Y` (R213). -/
  | movXDpPlusY (d : Byte)
  /-- `MOV X,!abs` (R214). -/
  | movXAbs (addr : Addr)
  /-- `MOV Y,#inm` (R215). -/
  | movYImm (imm : Byte)
  /-- `MOV Y,dp` (R216). -/
  | movYDp (d : Byte)
  /-- `MOV Y,dp+X` (R217). -/
  | movYDpPlusX (d : Byte)
  /-- `MOV Y,!abs` (R218). -/
  | movYAbs (addr : Addr)
  /-- `MOV (X),A` (R219). -/
  | movIndXA
  /-- `MOV (X)+,A` (R220). -/
  | movIndXIncA
  /-- `MOV dp,A` (R221). -/
  | movDpA (d : Byte)
  /-- `MOV dp+X,A` (R222). -/
  | movDpPlusXA (d : Byte)
  /-- `MOV !abs,A` (R223). -/
  | movAbsA (addr : Addr)
  /-- `MOV !abs+X,A` (R224). -/
  | movAbsPlusXA (addr : Addr)
  /-- `MOV !abs+Y,A` (R225). -/
  | movAbsPlusYA (addr : Addr)
  /-- `MOV (dp+X),A` (R226). -/
  | movIndDpXA (d : Byte)
  /-- `MOV (dp)+Y,A` (R227). -/
  | movIndDpPlusYA (d : Byte)
  /-- `MOV dp,X` (R228). -/
  | movDpX (d : Byte)
  /-- `MOV dp+Y,X` (R229). -/
  | movDpPlusYX (d : Byte)
  /-- `MOV !abs,X` (R230). -/
  | movAbsX (addr : Addr)
  /-- `MOV dp,Y` (R231). -/
  | movDpY (d : Byte)
  /-- `MOV dp+X,Y` (R232). -/
  | movDpPlusXY (d : Byte)
  /-- `MOV !abs,Y` (R233). -/
  | movAbsY (addr : Addr)
  /-- `MOV A,X` (R234). -/
  | movAX
  /-- `MOV A,Y` (R235). -/
  | movAY
  /-- `MOV X,A` (R236). -/
  | movXA
  /-- `MOV Y,A` (R237). -/
  | movYA
  /-- `MOV X,SP` (R238). -/
  | movXSp
  /-- `MOV SP,X` (R239). -/
  | movSpX
  /-- `MOV dp(d),dp(s)` (R240). -/
  | movDpDp (dst : Byte) (src : Byte)
  /-- `MOV dp,#inm` (R241). -/
  | movDpImm (d : Byte) (imm : Byte)
  -- 41_arith8.md
  /-- `ADC A,#inm` (R254). -/
  | adcAImm (imm : Byte)
  /-- `ADC A,(X)` (R255). -/
  | adcAIndX
  /-- `ADC A,dp` (R256). -/
  | adcADp (d : Byte)
  /-- `ADC A,dp+X` (R257). -/
  | adcADpPlusX (d : Byte)
  /-- `ADC A,!abs` (R258). -/
  | adcAAbs (addr : Addr)
  /-- `ADC A,!abs+X` (R259). -/
  | adcAAbsPlusX (addr : Addr)
  /-- `ADC A,!abs+Y` (R260). -/
  | adcAAbsPlusY (addr : Addr)
  /-- `ADC A,(dp+X)` (R261). -/
  | adcAIndDpX (d : Byte)
  /-- `ADC A,(dp)+Y` (R262). -/
  | adcAIndDpPlusY (d : Byte)
  /-- `ADC (X),(Y)` (R263). -/
  | adcIndXIndY
  /-- `ADC dp(d),dp(s)` (R264). -/
  | adcDpDp (dst : Byte) (src : Byte)
  /-- `ADC dp,#inm` (R265). -/
  | adcDpImm (d : Byte) (imm : Byte)
  /-- `SBC A,#inm` (R266). -/
  | sbcAImm (imm : Byte)
  /-- `SBC A,(X)` (R267). -/
  | sbcAIndX
  /-- `SBC A,dp` (R268). -/
  | sbcADp (d : Byte)
  /-- `SBC A,dp+X` (R269). -/
  | sbcADpPlusX (d : Byte)
  /-- `SBC A,!abs` (R270). -/
  | sbcAAbs (addr : Addr)
  /-- `SBC A,!abs+X` (R271). -/
  | sbcAAbsPlusX (addr : Addr)
  /-- `SBC A,!abs+Y` (R272). -/
  | sbcAAbsPlusY (addr : Addr)
  /-- `SBC A,(dp+X)` (R273). -/
  | sbcAIndDpX (d : Byte)
  /-- `SBC A,(dp)+Y` (R274). -/
  | sbcAIndDpPlusY (d : Byte)
  /-- `SBC (X),(Y)` (R275). -/
  | sbcIndXIndY
  /-- `SBC dp(d),dp(s)` (R276). -/
  | sbcDpDp (dst : Byte) (src : Byte)
  /-- `SBC dp,#inm` (R277). -/
  | sbcDpImm (d : Byte) (imm : Byte)
  /-- `CMP A,#inm` (R278). -/
  | cmpAImm (imm : Byte)
  /-- `CMP A,(X)` (R279). -/
  | cmpAIndX
  /-- `CMP A,dp` (R280). -/
  | cmpADp (d : Byte)
  /-- `CMP A,dp+X` (R281). -/
  | cmpADpPlusX (d : Byte)
  /-- `CMP A,!abs` (R282). -/
  | cmpAAbs (addr : Addr)
  /-- `CMP A,!abs+X` (R283). -/
  | cmpAAbsPlusX (addr : Addr)
  /-- `CMP A,!abs+Y` (R284). -/
  | cmpAAbsPlusY (addr : Addr)
  /-- `CMP A,(dp+X)` (R285). -/
  | cmpAIndDpX (d : Byte)
  /-- `CMP A,(dp)+Y` (R286). -/
  | cmpAIndDpPlusY (d : Byte)
  /-- `CMP (X),(Y)` (R287). -/
  | cmpIndXIndY
  /-- `CMP dp(d),dp(s)` (R288). -/
  | cmpDpDp (dst : Byte) (src : Byte)
  /-- `CMP dp,#inm` (R289). -/
  | cmpDpImm (d : Byte) (imm : Byte)
  /-- `CMP X,#inm` (R290). -/
  | cmpXImm (imm : Byte)
  /-- `CMP X,dp` (R291). -/
  | cmpXDp (d : Byte)
  /-- `CMP X,!abs` (R292). -/
  | cmpXAbs (addr : Addr)
  /-- `CMP Y,#inm` (R293). -/
  | cmpYImm (imm : Byte)
  /-- `CMP Y,dp` (R294). -/
  | cmpYDp (d : Byte)
  /-- `CMP Y,!abs` (R295). -/
  | cmpYAbs (addr : Addr)
  -- 42_logic8.md
  /-- `AND A,#inm` (R301). -/
  | andAImm (imm : Byte)
  /-- `AND A,(X)` (R302). -/
  | andAIndX
  /-- `AND A,dp` (R303). -/
  | andADp (d : Byte)
  /-- `AND A,dp+X` (R304). -/
  | andADpPlusX (d : Byte)
  /-- `AND A,!abs` (R305). -/
  | andAAbs (addr : Addr)
  /-- `AND A,!abs+X` (R306). -/
  | andAAbsPlusX (addr : Addr)
  /-- `AND A,!abs+Y` (R307). -/
  | andAAbsPlusY (addr : Addr)
  /-- `AND A,(dp+X)` (R308). -/
  | andAIndDpX (d : Byte)
  /-- `AND A,(dp)+Y` (R309). -/
  | andAIndDpPlusY (d : Byte)
  /-- `AND (X),(Y)` (R310). -/
  | andIndXIndY
  /-- `AND dp(d),dp(s)` (R311). -/
  | andDpDp (dst : Byte) (src : Byte)
  /-- `AND dp,#inm` (R312). -/
  | andDpImm (d : Byte) (imm : Byte)
  /-- `OR A,#inm` (R313). -/
  | orAImm (imm : Byte)
  /-- `OR A,(X)` (R314). -/
  | orAIndX
  /-- `OR A,dp` (R315). -/
  | orADp (d : Byte)
  /-- `OR A,dp+X` (R316). -/
  | orADpPlusX (d : Byte)
  /-- `OR A,!abs` (R317). -/
  | orAAbs (addr : Addr)
  /-- `OR A,!abs+X` (R318). -/
  | orAAbsPlusX (addr : Addr)
  /-- `OR A,!abs+Y` (R319). -/
  | orAAbsPlusY (addr : Addr)
  /-- `OR A,(dp+X)` (R320). -/
  | orAIndDpX (d : Byte)
  /-- `OR A,(dp)+Y` (R321). -/
  | orAIndDpPlusY (d : Byte)
  /-- `OR (X),(Y)` (R322). -/
  | orIndXIndY
  /-- `OR dp(d),dp(s)` (R323). -/
  | orDpDp (dst : Byte) (src : Byte)
  /-- `OR dp,#inm` (R324). -/
  | orDpImm (d : Byte) (imm : Byte)
  /-- `EOR A,#inm` (R325). -/
  | eorAImm (imm : Byte)
  /-- `EOR A,(X)` (R326). -/
  | eorAIndX
  /-- `EOR A,dp` (R327). -/
  | eorADp (d : Byte)
  /-- `EOR A,dp+X` (R328). -/
  | eorADpPlusX (d : Byte)
  /-- `EOR A,!abs` (R329). -/
  | eorAAbs (addr : Addr)
  /-- `EOR A,!abs+X` (R330). -/
  | eorAAbsPlusX (addr : Addr)
  /-- `EOR A,!abs+Y` (R331). -/
  | eorAAbsPlusY (addr : Addr)
  /-- `EOR A,(dp+X)` (R332). -/
  | eorAIndDpX (d : Byte)
  /-- `EOR A,(dp)+Y` (R333). -/
  | eorAIndDpPlusY (d : Byte)
  /-- `EOR (X),(Y)` (R334). -/
  | eorIndXIndY
  /-- `EOR dp(d),dp(s)` (R335). -/
  | eorDpDp (dst : Byte) (src : Byte)
  /-- `EOR dp,#inm` (R336). -/
  | eorDpImm (d : Byte) (imm : Byte)
  -- 43_incdec_shift.md
  /-- `INC A` (R355). -/
  | incA
  /-- `INC dp` (R356). -/
  | incDp (d : Byte)
  /-- `INC dp+X` (R357). -/
  | incDpPlusX (d : Byte)
  /-- `INC !abs` (R358). -/
  | incAbs (addr : Addr)
  /-- `INC X` (R359). -/
  | incX
  /-- `INC Y` (R360). -/
  | incY
  /-- `DEC A` (R361). -/
  | decA
  /-- `DEC dp` (R362). -/
  | decDp (d : Byte)
  /-- `DEC dp+X` (R363). -/
  | decDpPlusX (d : Byte)
  /-- `DEC !abs` (R364). -/
  | decAbs (addr : Addr)
  /-- `DEC X` (R365). -/
  | decX
  /-- `DEC Y` (R366). -/
  | decY
  /-- `ASL A` (R367). -/
  | aslA
  /-- `ASL dp` (R368). -/
  | aslDp (d : Byte)
  /-- `ASL dp+X` (R369). -/
  | aslDpPlusX (d : Byte)
  /-- `ASL !abs` (R370). -/
  | aslAbs (addr : Addr)
  /-- `LSR A` (R371). -/
  | lsrA
  /-- `LSR dp` (R372). -/
  | lsrDp (d : Byte)
  /-- `LSR dp+X` (R373). -/
  | lsrDpPlusX (d : Byte)
  /-- `LSR !abs` (R374). -/
  | lsrAbs (addr : Addr)
  /-- `ROL A` (R375). -/
  | rolA
  /-- `ROL dp` (R376). -/
  | rolDp (d : Byte)
  /-- `ROL dp+X` (R377). -/
  | rolDpPlusX (d : Byte)
  /-- `ROL !abs` (R378). -/
  | rolAbs (addr : Addr)
  /-- `ROR A` (R379). -/
  | rorA
  /-- `ROR dp` (R380). -/
  | rorDp (d : Byte)
  /-- `ROR dp+X` (R381). -/
  | rorDpPlusX (d : Byte)
  /-- `ROR !abs` (R382). -/
  | rorAbs (addr : Addr)
  /-- `XCN A` (R383). -/
  | xcnA
  -- 44_word16.md
  /-- `MOVW YA,dp` (R393). -/
  | movwYaDp (d : Byte)
  /-- `MOVW dp,YA` (R394). -/
  | movwDpYa (d : Byte)
  /-- `INCW dp` (R395). -/
  | incwDp (d : Byte)
  /-- `DECW dp` (R396). -/
  | decwDp (d : Byte)
  /-- `ADDW YA,dp` (R397). -/
  | addwYaDp (d : Byte)
  /-- `SUBW YA,dp` (R398). -/
  | subwYaDp (d : Byte)
  /-- `CMPW YA,dp` (R399). -/
  | cmpwYaDp (d : Byte)
  -- 45_muldiv_decimal.md
  /-- `MUL YA` (R410). -/
  | mulYa
  /-- `DIV YA,X` (R412). -/
  | divYaX
  /-- `DAA A` (R415). -/
  | daaA
  /-- `DAS A` (R416). -/
  | dasA
  -- 46_branch.md
  /-- `BRA rel` (R431). -/
  | bra (rel : Byte)
  /-- `BEQ rel` (R432). -/
  | beq (rel : Byte)
  /-- `BNE rel` (R433). -/
  | bne (rel : Byte)
  /-- `BCS rel` (R434). -/
  | bcs (rel : Byte)
  /-- `BCC rel` (R435). -/
  | bcc (rel : Byte)
  /-- `BVS rel` (R436). -/
  | bvs (rel : Byte)
  /-- `BVC rel` (R437). -/
  | bvc (rel : Byte)
  /-- `BMI rel` (R438). -/
  | bmi (rel : Byte)
  /-- `BPL rel` (R439). -/
  | bpl (rel : Byte)
  /-- `BBS dp.bit,rel` (R440). -/
  | bbs (bit : Nat) (d : Byte) (rel : Byte)
  /-- `BBC dp.bit,rel` (R441). -/
  | bbc (bit : Nat) (d : Byte) (rel : Byte)
  /-- `CBNE dp,rel` (R442). -/
  | cbneDp (d : Byte) (rel : Byte)
  /-- `CBNE dp+X,rel` (R443). -/
  | cbneDpPlusX (d : Byte) (rel : Byte)
  /-- `DBNZ dp,rel` (R444). -/
  | dbnzDp (d : Byte) (rel : Byte)
  /-- `DBNZ Y,rel` (R445). -/
  | dbnzY (rel : Byte)
  /-- `JMP !abs` (R446). -/
  | jmpAbs (addr : Addr)
  /-- `JMP (!abs+X)` (R447). -/
  | jmpIndAbsPlusX (addr : Addr)
  -- 47_call_stack.md
  /-- `CALL !abs` (R470). -/
  | callAbs (addr : Addr)
  /-- `PCALL upage` (R471). -/
  | pcall (upage : Byte)
  /-- `TCALL n` (R472). -/
  | tcall (n : Nat)
  /-- `BRK` (R473). -/
  | brk
  /-- `RET` (R474). -/
  | ret
  /-- `RET1` (R475). -/
  | ret1
  /-- `PUSH A` (R476). -/
  | pushA
  /-- `PUSH X` (R477). -/
  | pushX
  /-- `PUSH Y` (R478). -/
  | pushY
  /-- `PUSH PSW` (R479). -/
  | pushPsw
  /-- `POP A` (R480). -/
  | popA
  /-- `POP X` (R481). -/
  | popX
  /-- `POP Y` (R482). -/
  | popY
  /-- `POP PSW` (R483). -/
  | popPsw
  -- 48_bit.md
  /-- `SET1 dp.bit` (R501). -/
  | set1 (bit : Nat) (d : Byte)
  /-- `CLR1 dp.bit` (R502). -/
  | clr1 (bit : Nat) (d : Byte)
  /-- `TSET1 !abs` (R503). -/
  | tset1Abs (addr : Addr)
  /-- `TCLR1 !abs` (R504). -/
  | tclr1Abs (addr : Addr)
  /-- `AND1 C,mem.bit` (R505). -/
  | and1CMem (addr : Addr) (bit : Nat)
  /-- `AND1 C,/mem.bit` (R506). -/
  | and1CNotMem (addr : Addr) (bit : Nat)
  /-- `OR1 C,mem.bit` (R507). -/
  | or1CMem (addr : Addr) (bit : Nat)
  /-- `OR1 C,/mem.bit` (R508). -/
  | or1CNotMem (addr : Addr) (bit : Nat)
  /-- `EOR1 C,mem.bit` (R509). -/
  | eor1CMem (addr : Addr) (bit : Nat)
  /-- `NOT1 mem.bit` (R510). -/
  | not1Mem (addr : Addr) (bit : Nat)
  /-- `MOV1 C,mem.bit` (R511). -/
  | mov1CMem (addr : Addr) (bit : Nat)
  /-- `MOV1 mem.bit,C` (R512). -/
  | mov1MemC (addr : Addr) (bit : Nat)
  -- 49_psw_misc.md
  /-- `CLRC` (R530). -/
  | clrc
  /-- `SETC` (R531). -/
  | setc
  /-- `NOTC` (R532). -/
  | notc
  /-- `CLRV` (R533). -/
  | clrv
  /-- `CLRP` (R534). -/
  | clrp
  /-- `SETP` (R535). -/
  | setp
  /-- `EI` (R536). -/
  | ei
  /-- `DI` (R537). -/
  | di
  /-- `NOP` (R538). -/
  | nop
  /-- `SLEEP` (R539). -/
  | sleep
  /-- `STOP` (R540). -/
  | stop
  deriving DecidableEq, Repr

end Sys2Proof
end

