-- ==== Sys2Proof/Machine/Dispatch.lean ====
section
/-! DEFINITION. One arm for each instruction: a direct call of its meaning. -/

namespace Sys2Proof.Machine

def exec (i : Instr) (s : State) : Host.Outcome State Fault Refusal :=
  match i with
  | .movAImm imm => Sys2Proof.Machine.execMovAImm imm s
  | .movAIndX => Sys2Proof.Machine.execMovAIndX s
  | .movAIndXInc => Sys2Proof.Machine.execMovAIndXInc s
  | .movADp d => Sys2Proof.Machine.execMovADp d s
  | .movADpPlusX d => Sys2Proof.Machine.execMovADpPlusX d s
  | .movAAbs addr => Sys2Proof.Machine.execMovAAbs addr s
  | .movAAbsPlusX addr => Sys2Proof.Machine.execMovAAbsPlusX addr s
  | .movAAbsPlusY addr => Sys2Proof.Machine.execMovAAbsPlusY addr s
  | .movAIndDpX d => Sys2Proof.Machine.execMovAIndDpX d s
  | .movAIndDpPlusY d => Sys2Proof.Machine.execMovAIndDpPlusY d s
  | .movXImm imm => Sys2Proof.Machine.execMovXImm imm s
  | .movXDp d => Sys2Proof.Machine.execMovXDp d s
  | .movXDpPlusY d => Sys2Proof.Machine.execMovXDpPlusY d s
  | .movXAbs addr => Sys2Proof.Machine.execMovXAbs addr s
  | .movYImm imm => Sys2Proof.Machine.execMovYImm imm s
  | .movYDp d => Sys2Proof.Machine.execMovYDp d s
  | .movYDpPlusX d => Sys2Proof.Machine.execMovYDpPlusX d s
  | .movYAbs addr => Sys2Proof.Machine.execMovYAbs addr s
  | .movIndXA => Sys2Proof.Machine.execMovIndXA s
  | .movIndXIncA => Sys2Proof.Machine.execMovIndXIncA s
  | .movDpA d => Sys2Proof.Machine.execMovDpA d s
  | .movDpPlusXA d => Sys2Proof.Machine.execMovDpPlusXA d s
  | .movAbsA addr => Sys2Proof.Machine.execMovAbsA addr s
  | .movAbsPlusXA addr => Sys2Proof.Machine.execMovAbsPlusXA addr s
  | .movAbsPlusYA addr => Sys2Proof.Machine.execMovAbsPlusYA addr s
  | .movIndDpXA d => Sys2Proof.Machine.execMovIndDpXA d s
  | .movIndDpPlusYA d => Sys2Proof.Machine.execMovIndDpPlusYA d s
  | .movDpX d => Sys2Proof.Machine.execMovDpX d s
  | .movDpPlusYX d => Sys2Proof.Machine.execMovDpPlusYX d s
  | .movAbsX addr => Sys2Proof.Machine.execMovAbsX addr s
  | .movDpY d => Sys2Proof.Machine.execMovDpY d s
  | .movDpPlusXY d => Sys2Proof.Machine.execMovDpPlusXY d s
  | .movAbsY addr => Sys2Proof.Machine.execMovAbsY addr s
  | .movAX => Sys2Proof.Machine.execMovAX s
  | .movAY => Sys2Proof.Machine.execMovAY s
  | .movXA => Sys2Proof.Machine.execMovXA s
  | .movYA => Sys2Proof.Machine.execMovYA s
  | .movXSp => Sys2Proof.Machine.execMovXSp s
  | .movSpX => Sys2Proof.Machine.execMovSpX s
  | .movDpDp dst src => Sys2Proof.Machine.execMovDpDp dst src s
  | .movDpImm d imm => Sys2Proof.Machine.execMovDpImm d imm s
  | .adcAImm imm => Sys2Proof.Machine.execAdcAImm imm s
  | .adcAIndX => Sys2Proof.Machine.execAdcAIndX s
  | .adcADp d => Sys2Proof.Machine.execAdcADp d s
  | .adcADpPlusX d => Sys2Proof.Machine.execAdcADpPlusX d s
  | .adcAAbs addr => Sys2Proof.Machine.execAdcAAbs addr s
  | .adcAAbsPlusX addr => Sys2Proof.Machine.execAdcAAbsPlusX addr s
  | .adcAAbsPlusY addr => Sys2Proof.Machine.execAdcAAbsPlusY addr s
  | .adcAIndDpX d => Sys2Proof.Machine.execAdcAIndDpX d s
  | .adcAIndDpPlusY d => Sys2Proof.Machine.execAdcAIndDpPlusY d s
  | .adcIndXIndY => Sys2Proof.Machine.execAdcIndXIndY s
  | .adcDpDp dst src => Sys2Proof.Machine.execAdcDpDp dst src s
  | .adcDpImm d imm => Sys2Proof.Machine.execAdcDpImm d imm s
  | .sbcAImm imm => Sys2Proof.Machine.execSbcAImm imm s
  | .sbcAIndX => Sys2Proof.Machine.execSbcAIndX s
  | .sbcADp d => Sys2Proof.Machine.execSbcADp d s
  | .sbcADpPlusX d => Sys2Proof.Machine.execSbcADpPlusX d s
  | .sbcAAbs addr => Sys2Proof.Machine.execSbcAAbs addr s
  | .sbcAAbsPlusX addr => Sys2Proof.Machine.execSbcAAbsPlusX addr s
  | .sbcAAbsPlusY addr => Sys2Proof.Machine.execSbcAAbsPlusY addr s
  | .sbcAIndDpX d => Sys2Proof.Machine.execSbcAIndDpX d s
  | .sbcAIndDpPlusY d => Sys2Proof.Machine.execSbcAIndDpPlusY d s
  | .sbcIndXIndY => Sys2Proof.Machine.execSbcIndXIndY s
  | .sbcDpDp dst src => Sys2Proof.Machine.execSbcDpDp dst src s
  | .sbcDpImm d imm => Sys2Proof.Machine.execSbcDpImm d imm s
  | .cmpAImm imm => Sys2Proof.Machine.execCmpAImm imm s
  | .cmpAIndX => Sys2Proof.Machine.execCmpAIndX s
  | .cmpADp d => Sys2Proof.Machine.execCmpADp d s
  | .cmpADpPlusX d => Sys2Proof.Machine.execCmpADpPlusX d s
  | .cmpAAbs addr => Sys2Proof.Machine.execCmpAAbs addr s
  | .cmpAAbsPlusX addr => Sys2Proof.Machine.execCmpAAbsPlusX addr s
  | .cmpAAbsPlusY addr => Sys2Proof.Machine.execCmpAAbsPlusY addr s
  | .cmpAIndDpX d => Sys2Proof.Machine.execCmpAIndDpX d s
  | .cmpAIndDpPlusY d => Sys2Proof.Machine.execCmpAIndDpPlusY d s
  | .cmpIndXIndY => Sys2Proof.Machine.execCmpIndXIndY s
  | .cmpDpDp dst src => Sys2Proof.Machine.execCmpDpDp dst src s
  | .cmpDpImm d imm => Sys2Proof.Machine.execCmpDpImm d imm s
  | .cmpXImm imm => Sys2Proof.Machine.execCmpXImm imm s
  | .cmpXDp d => Sys2Proof.Machine.execCmpXDp d s
  | .cmpXAbs addr => Sys2Proof.Machine.execCmpXAbs addr s
  | .cmpYImm imm => Sys2Proof.Machine.execCmpYImm imm s
  | .cmpYDp d => Sys2Proof.Machine.execCmpYDp d s
  | .cmpYAbs addr => Sys2Proof.Machine.execCmpYAbs addr s
  | .andAImm imm => Sys2Proof.Machine.execAndAImm imm s
  | .andAIndX => Sys2Proof.Machine.execAndAIndX s
  | .andADp d => Sys2Proof.Machine.execAndADp d s
  | .andADpPlusX d => Sys2Proof.Machine.execAndADpPlusX d s
  | .andAAbs addr => Sys2Proof.Machine.execAndAAbs addr s
  | .andAAbsPlusX addr => Sys2Proof.Machine.execAndAAbsPlusX addr s
  | .andAAbsPlusY addr => Sys2Proof.Machine.execAndAAbsPlusY addr s
  | .andAIndDpX d => Sys2Proof.Machine.execAndAIndDpX d s
  | .andAIndDpPlusY d => Sys2Proof.Machine.execAndAIndDpPlusY d s
  | .andIndXIndY => Sys2Proof.Machine.execAndIndXIndY s
  | .andDpDp dst src => Sys2Proof.Machine.execAndDpDp dst src s
  | .andDpImm d imm => Sys2Proof.Machine.execAndDpImm d imm s
  | .orAImm imm => Sys2Proof.Machine.execOrAImm imm s
  | .orAIndX => Sys2Proof.Machine.execOrAIndX s
  | .orADp d => Sys2Proof.Machine.execOrADp d s
  | .orADpPlusX d => Sys2Proof.Machine.execOrADpPlusX d s
  | .orAAbs addr => Sys2Proof.Machine.execOrAAbs addr s
  | .orAAbsPlusX addr => Sys2Proof.Machine.execOrAAbsPlusX addr s
  | .orAAbsPlusY addr => Sys2Proof.Machine.execOrAAbsPlusY addr s
  | .orAIndDpX d => Sys2Proof.Machine.execOrAIndDpX d s
  | .orAIndDpPlusY d => Sys2Proof.Machine.execOrAIndDpPlusY d s
  | .orIndXIndY => Sys2Proof.Machine.execOrIndXIndY s
  | .orDpDp dst src => Sys2Proof.Machine.execOrDpDp dst src s
  | .orDpImm d imm => Sys2Proof.Machine.execOrDpImm d imm s
  | .eorAImm imm => Sys2Proof.Machine.execEorAImm imm s
  | .eorAIndX => Sys2Proof.Machine.execEorAIndX s
  | .eorADp d => Sys2Proof.Machine.execEorADp d s
  | .eorADpPlusX d => Sys2Proof.Machine.execEorADpPlusX d s
  | .eorAAbs addr => Sys2Proof.Machine.execEorAAbs addr s
  | .eorAAbsPlusX addr => Sys2Proof.Machine.execEorAAbsPlusX addr s
  | .eorAAbsPlusY addr => Sys2Proof.Machine.execEorAAbsPlusY addr s
  | .eorAIndDpX d => Sys2Proof.Machine.execEorAIndDpX d s
  | .eorAIndDpPlusY d => Sys2Proof.Machine.execEorAIndDpPlusY d s
  | .eorIndXIndY => Sys2Proof.Machine.execEorIndXIndY s
  | .eorDpDp dst src => Sys2Proof.Machine.execEorDpDp dst src s
  | .eorDpImm d imm => Sys2Proof.Machine.execEorDpImm d imm s
  | .incA => Sys2Proof.Machine.execIncA s
  | .incDp d => Sys2Proof.Machine.execIncDp d s
  | .incDpPlusX d => Sys2Proof.Machine.execIncDpPlusX d s
  | .incAbs addr => Sys2Proof.Machine.execIncAbs addr s
  | .incX => Sys2Proof.Machine.execIncX s
  | .incY => Sys2Proof.Machine.execIncY s
  | .decA => Sys2Proof.Machine.execDecA s
  | .decDp d => Sys2Proof.Machine.execDecDp d s
  | .decDpPlusX d => Sys2Proof.Machine.execDecDpPlusX d s
  | .decAbs addr => Sys2Proof.Machine.execDecAbs addr s
  | .decX => Sys2Proof.Machine.execDecX s
  | .decY => Sys2Proof.Machine.execDecY s
  | .aslA => Sys2Proof.Machine.execAslA s
  | .aslDp d => Sys2Proof.Machine.execAslDp d s
  | .aslDpPlusX d => Sys2Proof.Machine.execAslDpPlusX d s
  | .aslAbs addr => Sys2Proof.Machine.execAslAbs addr s
  | .lsrA => Sys2Proof.Machine.execLsrA s
  | .lsrDp d => Sys2Proof.Machine.execLsrDp d s
  | .lsrDpPlusX d => Sys2Proof.Machine.execLsrDpPlusX d s
  | .lsrAbs addr => Sys2Proof.Machine.execLsrAbs addr s
  | .rolA => Sys2Proof.Machine.execRolA s
  | .rolDp d => Sys2Proof.Machine.execRolDp d s
  | .rolDpPlusX d => Sys2Proof.Machine.execRolDpPlusX d s
  | .rolAbs addr => Sys2Proof.Machine.execRolAbs addr s
  | .rorA => Sys2Proof.Machine.execRorA s
  | .rorDp d => Sys2Proof.Machine.execRorDp d s
  | .rorDpPlusX d => Sys2Proof.Machine.execRorDpPlusX d s
  | .rorAbs addr => Sys2Proof.Machine.execRorAbs addr s
  | .xcnA => Sys2Proof.Machine.execXcnA s
  | .movwYaDp d => Sys2Proof.Machine.execMovwYaDp d s
  | .movwDpYa d => Sys2Proof.Machine.execMovwDpYa d s
  | .incwDp d => Sys2Proof.Machine.execIncwDp d s
  | .decwDp d => Sys2Proof.Machine.execDecwDp d s
  | .addwYaDp d => Sys2Proof.Machine.execAddwYaDp d s
  | .subwYaDp d => Sys2Proof.Machine.execSubwYaDp d s
  | .cmpwYaDp d => Sys2Proof.Machine.execCmpwYaDp d s
  | .mulYa => Sys2Proof.Machine.execMulYa s
  | .divYaX => Sys2Proof.Machine.execDivYaX s
  | .daaA => Sys2Proof.Machine.execDaaA s
  | .dasA => Sys2Proof.Machine.execDasA s
  | .bra rel => Sys2Proof.Machine.execBra rel s
  | .beq rel => Sys2Proof.Machine.execBeq rel s
  | .bne rel => Sys2Proof.Machine.execBne rel s
  | .bcs rel => Sys2Proof.Machine.execBcs rel s
  | .bcc rel => Sys2Proof.Machine.execBcc rel s
  | .bvs rel => Sys2Proof.Machine.execBvs rel s
  | .bvc rel => Sys2Proof.Machine.execBvc rel s
  | .bmi rel => Sys2Proof.Machine.execBmi rel s
  | .bpl rel => Sys2Proof.Machine.execBpl rel s
  | .bbs bit d rel => Sys2Proof.Machine.execBbs bit d rel s
  | .bbc bit d rel => Sys2Proof.Machine.execBbc bit d rel s
  | .cbneDp d rel => Sys2Proof.Machine.execCbneDp d rel s
  | .cbneDpPlusX d rel => Sys2Proof.Machine.execCbneDpPlusX d rel s
  | .dbnzDp d rel => Sys2Proof.Machine.execDbnzDp d rel s
  | .dbnzY rel => Sys2Proof.Machine.execDbnzY rel s
  | .jmpAbs addr => Sys2Proof.Machine.execJmpAbs addr s
  | .jmpIndAbsPlusX addr => Sys2Proof.Machine.execJmpIndAbsPlusX addr s
  | .callAbs addr => Sys2Proof.Machine.execCallAbs addr s
  | .pcall upage => Sys2Proof.Machine.execPcall upage s
  | .tcall n => Sys2Proof.Machine.execTcall n s
  | .brk => Sys2Proof.Machine.execBrk s
  | .ret => Sys2Proof.Machine.execRet s
  | .ret1 => Sys2Proof.Machine.execRet1 s
  | .pushA => Sys2Proof.Machine.execPushA s
  | .pushX => Sys2Proof.Machine.execPushX s
  | .pushY => Sys2Proof.Machine.execPushY s
  | .pushPsw => Sys2Proof.Machine.execPushPsw s
  | .popA => Sys2Proof.Machine.execPopA s
  | .popX => Sys2Proof.Machine.execPopX s
  | .popY => Sys2Proof.Machine.execPopY s
  | .popPsw => Sys2Proof.Machine.execPopPsw s
  | .set1 bit d => Sys2Proof.Machine.execSet1 bit d s
  | .clr1 bit d => Sys2Proof.Machine.execClr1 bit d s
  | .tset1Abs addr => Sys2Proof.Machine.execTset1Abs addr s
  | .tclr1Abs addr => Sys2Proof.Machine.execTclr1Abs addr s
  | .and1CMem addr bit => Sys2Proof.Machine.execAnd1CMem addr bit s
  | .and1CNotMem addr bit => Sys2Proof.Machine.execAnd1CNotMem addr bit s
  | .or1CMem addr bit => Sys2Proof.Machine.execOr1CMem addr bit s
  | .or1CNotMem addr bit => Sys2Proof.Machine.execOr1CNotMem addr bit s
  | .eor1CMem addr bit => Sys2Proof.Machine.execEor1CMem addr bit s
  | .not1Mem addr bit => Sys2Proof.Machine.execNot1Mem addr bit s
  | .mov1CMem addr bit => Sys2Proof.Machine.execMov1CMem addr bit s
  | .mov1MemC addr bit => Sys2Proof.Machine.execMov1MemC addr bit s
  | .clrc => Sys2Proof.Machine.execClrc s
  | .setc => Sys2Proof.Machine.execSetc s
  | .notc => Sys2Proof.Machine.execNotc s
  | .clrv => Sys2Proof.Machine.execClrv s
  | .clrp => Sys2Proof.Machine.execClrp s
  | .setp => Sys2Proof.Machine.execSetp s
  | .ei => Sys2Proof.Machine.execEi s
  | .di => Sys2Proof.Machine.execDi s
  | .nop => Sys2Proof.Machine.execNop s
  | .sleep => Sys2Proof.Machine.execSleep s
  | .stop => Sys2Proof.Machine.execStop s

end Sys2Proof.Machine
end

