-- ==== Sys2Proof/Decode.lean ====
section
/-! DEFINITION. The opcode table (30_encoding.md R117), the decoder that reads an instruction from bytes, and the
encoder that writes it. The decoder and the encoder are written separately, each from the encoding of R100 to R118. -/

namespace Sys2Proof

/-- The thirteen operand layouts (30_encoding.md R102 to R114), each with the instruction it makes of its operands. -/
inductive Layout where
  /-- `code` (R102). -/
  | imp (make : Instr)
  /-- `code, inm` (R103). -/
  | imm (make : Byte → Instr)
  /-- `code, dp` (R104). -/
  | dp (make : Byte → Instr)
  /-- `code, abs low, abs high` (R105). -/
  | abs (make : Addr → Instr)
  /-- `code, dp(s), dp(d)` (R106); `make` takes the destination first. -/
  | dpdp (make : Byte → Byte → Instr)
  /-- `code, inm, dp` (R107); `make` takes the offset first. -/
  | dpimm (make : Byte → Byte → Instr)
  /-- `code, rel` (R108). -/
  | rel (make : Byte → Instr)
  /-- `code, dp, rel` (R109). -/
  | dprel (make : Byte → Byte → Instr)
  /-- `code = bbb s 0010, dp` (R110). -/
  | bitdp (make : Nat → Byte → Instr)
  /-- `code = bbb s 0011, dp, rel` (R111). -/
  | bitdprel (make : Nat → Byte → Byte → Instr)
  /-- `code, w low, w high` (R112). -/
  | membit (make : Addr → Nat → Instr)
  /-- `code = nnnn 0001` (R113). -/
  | tcall (make : Nat → Instr)
  /-- `code, upage` (R114). -/
  | upage (make : Byte → Instr)

/-- The length of an instruction in bytes (30_encoding.md R101 to R114). -/
def Layout.length : Layout → Nat
  | .imp _ | .tcall _ => 1
  | .imm _ | .dp _ | .rel _ | .bitdp _ | .upage _ => 2
  | .abs _ | .dpdp _ | .dpimm _ | .dprel _ | .bitdprel _ | .membit _ => 3

/-- The instruction that a layout reads from the code byte and the operand bytes `op1`, `op2`; operand bytes that the
length does not include are not looked at (30_encoding.md R101, R115, logs 8, 9, 10). -/
def Layout.read (code op1 op2 : Byte) : Layout → Instr
  | .imp make => make
  | .imm make => make op1
  | .dp make => make op1
  | .abs make => make (Machine.mkWord op2 op1)
  | .dpdp make => make op2 op1
  | .dpimm make => make op2 op1
  | .rel make => make op1
  | .dprel make => make op1 op2
  | .bitdp make => make (code >>> 5).toNat op1
  | .bitdprel make => make (code >>> 5).toNat op1 op2
  | .membit make =>
    make (Machine.memBitAddr (Machine.mkWord op2 op1)) (Machine.memBitNo (Machine.mkWord op2 op1))
  | .tcall make => make (code >>> 4).toNat
  | .upage make => make op1

/-- A row of the opcode table: it is selected by a code `c` with `c AND mask = pattern`. -/
structure OpcodeRow where
  pattern : Byte
  mask : Byte
  layout : Layout

/-- The code selects the row. -/
def OpcodeRow.selects (row : OpcodeRow) (code : Byte) : Bool := code &&& row.mask == row.pattern

/-- The rows of 40_mov8.md. -/
def rowsMov8 : List OpcodeRow := [
  ⟨0xE8, 0xFF, .imm .movAImm⟩,
  ⟨0xE6, 0xFF, .imp .movAIndX⟩,
  ⟨0xBF, 0xFF, .imp .movAIndXInc⟩,
  ⟨0xE4, 0xFF, .dp .movADp⟩,
  ⟨0xF4, 0xFF, .dp .movADpPlusX⟩,
  ⟨0xE5, 0xFF, .abs .movAAbs⟩,
  ⟨0xF5, 0xFF, .abs .movAAbsPlusX⟩,
  ⟨0xF6, 0xFF, .abs .movAAbsPlusY⟩,
  ⟨0xE7, 0xFF, .dp .movAIndDpX⟩,
  ⟨0xF7, 0xFF, .dp .movAIndDpPlusY⟩,
  ⟨0xCD, 0xFF, .imm .movXImm⟩,
  ⟨0xF8, 0xFF, .dp .movXDp⟩,
  ⟨0xF9, 0xFF, .dp .movXDpPlusY⟩,
  ⟨0xE9, 0xFF, .abs .movXAbs⟩,
  ⟨0x8D, 0xFF, .imm .movYImm⟩,
  ⟨0xEB, 0xFF, .dp .movYDp⟩,
  ⟨0xFB, 0xFF, .dp .movYDpPlusX⟩,
  ⟨0xEC, 0xFF, .abs .movYAbs⟩,
  ⟨0xC6, 0xFF, .imp .movIndXA⟩,
  ⟨0xAF, 0xFF, .imp .movIndXIncA⟩,
  ⟨0xC4, 0xFF, .dp .movDpA⟩,
  ⟨0xD4, 0xFF, .dp .movDpPlusXA⟩,
  ⟨0xC5, 0xFF, .abs .movAbsA⟩,
  ⟨0xD5, 0xFF, .abs .movAbsPlusXA⟩,
  ⟨0xD6, 0xFF, .abs .movAbsPlusYA⟩,
  ⟨0xC7, 0xFF, .dp .movIndDpXA⟩,
  ⟨0xD7, 0xFF, .dp .movIndDpPlusYA⟩,
  ⟨0xD8, 0xFF, .dp .movDpX⟩,
  ⟨0xD9, 0xFF, .dp .movDpPlusYX⟩,
  ⟨0xC9, 0xFF, .abs .movAbsX⟩,
  ⟨0xCB, 0xFF, .dp .movDpY⟩,
  ⟨0xDB, 0xFF, .dp .movDpPlusXY⟩,
  ⟨0xCC, 0xFF, .abs .movAbsY⟩,
  ⟨0x7D, 0xFF, .imp .movAX⟩,
  ⟨0xDD, 0xFF, .imp .movAY⟩,
  ⟨0x5D, 0xFF, .imp .movXA⟩,
  ⟨0xFD, 0xFF, .imp .movYA⟩,
  ⟨0x9D, 0xFF, .imp .movXSp⟩,
  ⟨0xBD, 0xFF, .imp .movSpX⟩,
  ⟨0xFA, 0xFF, .dpdp .movDpDp⟩,
  ⟨0x8F, 0xFF, .dpimm .movDpImm⟩]

/-- The rows of 41_arith8.md. -/
def rowsArith8 : List OpcodeRow := [
  ⟨0x88, 0xFF, .imm .adcAImm⟩,
  ⟨0x86, 0xFF, .imp .adcAIndX⟩,
  ⟨0x84, 0xFF, .dp .adcADp⟩,
  ⟨0x94, 0xFF, .dp .adcADpPlusX⟩,
  ⟨0x85, 0xFF, .abs .adcAAbs⟩,
  ⟨0x95, 0xFF, .abs .adcAAbsPlusX⟩,
  ⟨0x96, 0xFF, .abs .adcAAbsPlusY⟩,
  ⟨0x87, 0xFF, .dp .adcAIndDpX⟩,
  ⟨0x97, 0xFF, .dp .adcAIndDpPlusY⟩,
  ⟨0x99, 0xFF, .imp .adcIndXIndY⟩,
  ⟨0x89, 0xFF, .dpdp .adcDpDp⟩,
  ⟨0x98, 0xFF, .dpimm .adcDpImm⟩,
  ⟨0xA8, 0xFF, .imm .sbcAImm⟩,
  ⟨0xA6, 0xFF, .imp .sbcAIndX⟩,
  ⟨0xA4, 0xFF, .dp .sbcADp⟩,
  ⟨0xB4, 0xFF, .dp .sbcADpPlusX⟩,
  ⟨0xA5, 0xFF, .abs .sbcAAbs⟩,
  ⟨0xB5, 0xFF, .abs .sbcAAbsPlusX⟩,
  ⟨0xB6, 0xFF, .abs .sbcAAbsPlusY⟩,
  ⟨0xA7, 0xFF, .dp .sbcAIndDpX⟩,
  ⟨0xB7, 0xFF, .dp .sbcAIndDpPlusY⟩,
  ⟨0xB9, 0xFF, .imp .sbcIndXIndY⟩,
  ⟨0xA9, 0xFF, .dpdp .sbcDpDp⟩,
  ⟨0xB8, 0xFF, .dpimm .sbcDpImm⟩,
  ⟨0x68, 0xFF, .imm .cmpAImm⟩,
  ⟨0x66, 0xFF, .imp .cmpAIndX⟩,
  ⟨0x64, 0xFF, .dp .cmpADp⟩,
  ⟨0x74, 0xFF, .dp .cmpADpPlusX⟩,
  ⟨0x65, 0xFF, .abs .cmpAAbs⟩,
  ⟨0x75, 0xFF, .abs .cmpAAbsPlusX⟩,
  ⟨0x76, 0xFF, .abs .cmpAAbsPlusY⟩,
  ⟨0x67, 0xFF, .dp .cmpAIndDpX⟩,
  ⟨0x77, 0xFF, .dp .cmpAIndDpPlusY⟩,
  ⟨0x79, 0xFF, .imp .cmpIndXIndY⟩,
  ⟨0x69, 0xFF, .dpdp .cmpDpDp⟩,
  ⟨0x78, 0xFF, .dpimm .cmpDpImm⟩,
  ⟨0xC8, 0xFF, .imm .cmpXImm⟩,
  ⟨0x3E, 0xFF, .dp .cmpXDp⟩,
  ⟨0x1E, 0xFF, .abs .cmpXAbs⟩,
  ⟨0xAD, 0xFF, .imm .cmpYImm⟩,
  ⟨0x7E, 0xFF, .dp .cmpYDp⟩,
  ⟨0x5E, 0xFF, .abs .cmpYAbs⟩]

/-- The rows of 42_logic8.md. -/
def rowsLogic8 : List OpcodeRow := [
  ⟨0x28, 0xFF, .imm .andAImm⟩,
  ⟨0x26, 0xFF, .imp .andAIndX⟩,
  ⟨0x24, 0xFF, .dp .andADp⟩,
  ⟨0x34, 0xFF, .dp .andADpPlusX⟩,
  ⟨0x25, 0xFF, .abs .andAAbs⟩,
  ⟨0x35, 0xFF, .abs .andAAbsPlusX⟩,
  ⟨0x36, 0xFF, .abs .andAAbsPlusY⟩,
  ⟨0x27, 0xFF, .dp .andAIndDpX⟩,
  ⟨0x37, 0xFF, .dp .andAIndDpPlusY⟩,
  ⟨0x39, 0xFF, .imp .andIndXIndY⟩,
  ⟨0x29, 0xFF, .dpdp .andDpDp⟩,
  ⟨0x38, 0xFF, .dpimm .andDpImm⟩,
  ⟨0x08, 0xFF, .imm .orAImm⟩,
  ⟨0x06, 0xFF, .imp .orAIndX⟩,
  ⟨0x04, 0xFF, .dp .orADp⟩,
  ⟨0x14, 0xFF, .dp .orADpPlusX⟩,
  ⟨0x05, 0xFF, .abs .orAAbs⟩,
  ⟨0x15, 0xFF, .abs .orAAbsPlusX⟩,
  ⟨0x16, 0xFF, .abs .orAAbsPlusY⟩,
  ⟨0x07, 0xFF, .dp .orAIndDpX⟩,
  ⟨0x17, 0xFF, .dp .orAIndDpPlusY⟩,
  ⟨0x19, 0xFF, .imp .orIndXIndY⟩,
  ⟨0x09, 0xFF, .dpdp .orDpDp⟩,
  ⟨0x18, 0xFF, .dpimm .orDpImm⟩,
  ⟨0x48, 0xFF, .imm .eorAImm⟩,
  ⟨0x46, 0xFF, .imp .eorAIndX⟩,
  ⟨0x44, 0xFF, .dp .eorADp⟩,
  ⟨0x54, 0xFF, .dp .eorADpPlusX⟩,
  ⟨0x45, 0xFF, .abs .eorAAbs⟩,
  ⟨0x55, 0xFF, .abs .eorAAbsPlusX⟩,
  ⟨0x56, 0xFF, .abs .eorAAbsPlusY⟩,
  ⟨0x47, 0xFF, .dp .eorAIndDpX⟩,
  ⟨0x57, 0xFF, .dp .eorAIndDpPlusY⟩,
  ⟨0x59, 0xFF, .imp .eorIndXIndY⟩,
  ⟨0x49, 0xFF, .dpdp .eorDpDp⟩,
  ⟨0x58, 0xFF, .dpimm .eorDpImm⟩]

/-- The rows of 43_incdec_shift.md. -/
def rowsIncDecShift : List OpcodeRow := [
  ⟨0xBC, 0xFF, .imp .incA⟩,
  ⟨0xAB, 0xFF, .dp .incDp⟩,
  ⟨0xBB, 0xFF, .dp .incDpPlusX⟩,
  ⟨0xAC, 0xFF, .abs .incAbs⟩,
  ⟨0x3D, 0xFF, .imp .incX⟩,
  ⟨0xFC, 0xFF, .imp .incY⟩,
  ⟨0x9C, 0xFF, .imp .decA⟩,
  ⟨0x8B, 0xFF, .dp .decDp⟩,
  ⟨0x9B, 0xFF, .dp .decDpPlusX⟩,
  ⟨0x8C, 0xFF, .abs .decAbs⟩,
  ⟨0x1D, 0xFF, .imp .decX⟩,
  ⟨0xDC, 0xFF, .imp .decY⟩,
  ⟨0x1C, 0xFF, .imp .aslA⟩,
  ⟨0x0B, 0xFF, .dp .aslDp⟩,
  ⟨0x1B, 0xFF, .dp .aslDpPlusX⟩,
  ⟨0x0C, 0xFF, .abs .aslAbs⟩,
  ⟨0x5C, 0xFF, .imp .lsrA⟩,
  ⟨0x4B, 0xFF, .dp .lsrDp⟩,
  ⟨0x5B, 0xFF, .dp .lsrDpPlusX⟩,
  ⟨0x4C, 0xFF, .abs .lsrAbs⟩,
  ⟨0x3C, 0xFF, .imp .rolA⟩,
  ⟨0x2B, 0xFF, .dp .rolDp⟩,
  ⟨0x3B, 0xFF, .dp .rolDpPlusX⟩,
  ⟨0x2C, 0xFF, .abs .rolAbs⟩,
  ⟨0x7C, 0xFF, .imp .rorA⟩,
  ⟨0x6B, 0xFF, .dp .rorDp⟩,
  ⟨0x7B, 0xFF, .dp .rorDpPlusX⟩,
  ⟨0x6C, 0xFF, .abs .rorAbs⟩,
  ⟨0x9F, 0xFF, .imp .xcnA⟩]

/-- The rows of 44_word16.md. -/
def rowsWord16 : List OpcodeRow := [
  ⟨0xBA, 0xFF, .dp .movwYaDp⟩,
  ⟨0xDA, 0xFF, .dp .movwDpYa⟩,
  ⟨0x3A, 0xFF, .dp .incwDp⟩,
  ⟨0x1A, 0xFF, .dp .decwDp⟩,
  ⟨0x7A, 0xFF, .dp .addwYaDp⟩,
  ⟨0x9A, 0xFF, .dp .subwYaDp⟩,
  ⟨0x5A, 0xFF, .dp .cmpwYaDp⟩]

/-- The rows of 45_muldiv_decimal.md. -/
def rowsMulDiv : List OpcodeRow := [
  ⟨0xCF, 0xFF, .imp .mulYa⟩,
  ⟨0x9E, 0xFF, .imp .divYaX⟩,
  ⟨0xDF, 0xFF, .imp .daaA⟩,
  ⟨0xBE, 0xFF, .imp .dasA⟩]

/-- The rows of 46_branch.md. -/
def rowsBranch : List OpcodeRow := [
  ⟨0x2F, 0xFF, .rel .bra⟩,
  ⟨0xF0, 0xFF, .rel .beq⟩,
  ⟨0xD0, 0xFF, .rel .bne⟩,
  ⟨0xB0, 0xFF, .rel .bcs⟩,
  ⟨0x90, 0xFF, .rel .bcc⟩,
  ⟨0x70, 0xFF, .rel .bvs⟩,
  ⟨0x50, 0xFF, .rel .bvc⟩,
  ⟨0x30, 0xFF, .rel .bmi⟩,
  ⟨0x10, 0xFF, .rel .bpl⟩,
  ⟨0x03, 0x1F, .bitdprel .bbs⟩,
  ⟨0x13, 0x1F, .bitdprel .bbc⟩,
  ⟨0x2E, 0xFF, .dprel .cbneDp⟩,
  ⟨0xDE, 0xFF, .dprel .cbneDpPlusX⟩,
  ⟨0x6E, 0xFF, .dprel .dbnzDp⟩,
  ⟨0xFE, 0xFF, .rel .dbnzY⟩,
  ⟨0x5F, 0xFF, .abs .jmpAbs⟩,
  ⟨0x1F, 0xFF, .abs .jmpIndAbsPlusX⟩]

/-- The rows of 47_call_stack.md. -/
def rowsCallStack : List OpcodeRow := [
  ⟨0x3F, 0xFF, .abs .callAbs⟩,
  ⟨0x4F, 0xFF, .upage .pcall⟩,
  ⟨0x01, 0x0F, .tcall .tcall⟩,
  ⟨0x0F, 0xFF, .imp .brk⟩,
  ⟨0x6F, 0xFF, .imp .ret⟩,
  ⟨0x7F, 0xFF, .imp .ret1⟩,
  ⟨0x2D, 0xFF, .imp .pushA⟩,
  ⟨0x4D, 0xFF, .imp .pushX⟩,
  ⟨0x6D, 0xFF, .imp .pushY⟩,
  ⟨0x0D, 0xFF, .imp .pushPsw⟩,
  ⟨0xAE, 0xFF, .imp .popA⟩,
  ⟨0xCE, 0xFF, .imp .popX⟩,
  ⟨0xEE, 0xFF, .imp .popY⟩,
  ⟨0x8E, 0xFF, .imp .popPsw⟩]

/-- The rows of 48_bit.md. -/
def rowsBit : List OpcodeRow := [
  ⟨0x02, 0x1F, .bitdp .set1⟩,
  ⟨0x12, 0x1F, .bitdp .clr1⟩,
  ⟨0x0E, 0xFF, .abs .tset1Abs⟩,
  ⟨0x4E, 0xFF, .abs .tclr1Abs⟩,
  ⟨0x4A, 0xFF, .membit .and1CMem⟩,
  ⟨0x6A, 0xFF, .membit .and1CNotMem⟩,
  ⟨0x0A, 0xFF, .membit .or1CMem⟩,
  ⟨0x2A, 0xFF, .membit .or1CNotMem⟩,
  ⟨0x8A, 0xFF, .membit .eor1CMem⟩,
  ⟨0xEA, 0xFF, .membit .not1Mem⟩,
  ⟨0xAA, 0xFF, .membit .mov1CMem⟩,
  ⟨0xCA, 0xFF, .membit .mov1MemC⟩]

/-- The rows of 49_psw_misc.md. -/
def rowsPswMisc : List OpcodeRow := [
  ⟨0x60, 0xFF, .imp .clrc⟩,
  ⟨0x80, 0xFF, .imp .setc⟩,
  ⟨0xED, 0xFF, .imp .notc⟩,
  ⟨0xE0, 0xFF, .imp .clrv⟩,
  ⟨0x20, 0xFF, .imp .clrp⟩,
  ⟨0x40, 0xFF, .imp .setp⟩,
  ⟨0xA0, 0xFF, .imp .ei⟩,
  ⟨0xC0, 0xFF, .imp .di⟩,
  ⟨0x00, 0xFF, .imp .nop⟩,
  ⟨0xEF, 0xFF, .imp .sleep⟩,
  ⟨0xFF, 0xFF, .imp .stop⟩]

/-- The opcode table: 213 rows, 256 codes (30_encoding.md R117). -/
def opcodeTable : List OpcodeRow :=
  rowsMov8 ++ rowsArith8 ++ rowsLogic8 ++ rowsIncDecShift ++ rowsWord16 ++
  rowsMulDiv ++ rowsBranch ++ rowsCallStack ++ rowsBit ++ rowsPswMisc

/-- The row that a code byte selects. -/
def rowOf (code : Byte) : Option OpcodeRow := opcodeTable.find? (fun row => row.selects code)

/-- Why bytes are no instruction. -/
inductive DecodeError where
  /-- There is no code byte. -/
  | noCode
  /-- The operand bytes that the length asks for are missing. -/
  | truncated (code : Byte)
  /-- No row of the table has the code; no code is so (30_encoding.md R119). -/
  | undefinedCode (code : Byte)
  deriving DecidableEq, Repr

/-- Decoding (30_encoding.md R101): the instruction at the head of a list of bytes, and the bytes after it. -/
def decode : List Byte → Except DecodeError (Instr × List Byte)
  | [] => .error .noCode
  | code :: rest =>
    match rowOf code with
    | none => .error (.undefinedCode code)
    | some row =>
      match row.layout.length, rest with
      | 1, rest => .ok (row.layout.read code 0 0, rest)
      | 2, op1 :: rest => .ok (row.layout.read code op1 0, rest)
      | 3, op1 :: op2 :: rest => .ok (row.layout.read code op1 op2, rest)
      | _, _ => .error (.truncated code)

/-- The bytes of a code and a 16-bit operand, low byte first (30_encoding.md R105). -/
def encodeWord (code : Byte) (w : Word) : List Byte := [code, Machine.loByte w, Machine.hiByte w]

/-- The code `bbb s` followed by four fixed bits: the bit number in bits 7..5 (30_encoding.md R110, R111). -/
def bitCode (low : Byte) (bit : Nat) : Byte := (BitVec.ofNat 8 bit <<< 5) ||| low

/-- The encoding of an instruction as its bytes at ascending addresses (30_encoding.md R100 to R118). -/
def encode : Instr → List Byte
  | .movAImm imm => [0xE8, imm]
  | .movAIndX => [0xE6]
  | .movAIndXInc => [0xBF]
  | .movADp d => [0xE4, d]
  | .movADpPlusX d => [0xF4, d]
  | .movAAbs addr => encodeWord 0xE5 addr
  | .movAAbsPlusX addr => encodeWord 0xF5 addr
  | .movAAbsPlusY addr => encodeWord 0xF6 addr
  | .movAIndDpX d => [0xE7, d]
  | .movAIndDpPlusY d => [0xF7, d]
  | .movXImm imm => [0xCD, imm]
  | .movXDp d => [0xF8, d]
  | .movXDpPlusY d => [0xF9, d]
  | .movXAbs addr => encodeWord 0xE9 addr
  | .movYImm imm => [0x8D, imm]
  | .movYDp d => [0xEB, d]
  | .movYDpPlusX d => [0xFB, d]
  | .movYAbs addr => encodeWord 0xEC addr
  | .movIndXA => [0xC6]
  | .movIndXIncA => [0xAF]
  | .movDpA d => [0xC4, d]
  | .movDpPlusXA d => [0xD4, d]
  | .movAbsA addr => encodeWord 0xC5 addr
  | .movAbsPlusXA addr => encodeWord 0xD5 addr
  | .movAbsPlusYA addr => encodeWord 0xD6 addr
  | .movIndDpXA d => [0xC7, d]
  | .movIndDpPlusYA d => [0xD7, d]
  | .movDpX d => [0xD8, d]
  | .movDpPlusYX d => [0xD9, d]
  | .movAbsX addr => encodeWord 0xC9 addr
  | .movDpY d => [0xCB, d]
  | .movDpPlusXY d => [0xDB, d]
  | .movAbsY addr => encodeWord 0xCC addr
  | .movAX => [0x7D]
  | .movAY => [0xDD]
  | .movXA => [0x5D]
  | .movYA => [0xFD]
  | .movXSp => [0x9D]
  | .movSpX => [0xBD]
  | .movDpDp dst src => [0xFA, src, dst]
  | .movDpImm d imm => [0x8F, imm, d]
  | .adcAImm imm => [0x88, imm]
  | .adcAIndX => [0x86]
  | .adcADp d => [0x84, d]
  | .adcADpPlusX d => [0x94, d]
  | .adcAAbs addr => encodeWord 0x85 addr
  | .adcAAbsPlusX addr => encodeWord 0x95 addr
  | .adcAAbsPlusY addr => encodeWord 0x96 addr
  | .adcAIndDpX d => [0x87, d]
  | .adcAIndDpPlusY d => [0x97, d]
  | .adcIndXIndY => [0x99]
  | .adcDpDp dst src => [0x89, src, dst]
  | .adcDpImm d imm => [0x98, imm, d]
  | .sbcAImm imm => [0xA8, imm]
  | .sbcAIndX => [0xA6]
  | .sbcADp d => [0xA4, d]
  | .sbcADpPlusX d => [0xB4, d]
  | .sbcAAbs addr => encodeWord 0xA5 addr
  | .sbcAAbsPlusX addr => encodeWord 0xB5 addr
  | .sbcAAbsPlusY addr => encodeWord 0xB6 addr
  | .sbcAIndDpX d => [0xA7, d]
  | .sbcAIndDpPlusY d => [0xB7, d]
  | .sbcIndXIndY => [0xB9]
  | .sbcDpDp dst src => [0xA9, src, dst]
  | .sbcDpImm d imm => [0xB8, imm, d]
  | .cmpAImm imm => [0x68, imm]
  | .cmpAIndX => [0x66]
  | .cmpADp d => [0x64, d]
  | .cmpADpPlusX d => [0x74, d]
  | .cmpAAbs addr => encodeWord 0x65 addr
  | .cmpAAbsPlusX addr => encodeWord 0x75 addr
  | .cmpAAbsPlusY addr => encodeWord 0x76 addr
  | .cmpAIndDpX d => [0x67, d]
  | .cmpAIndDpPlusY d => [0x77, d]
  | .cmpIndXIndY => [0x79]
  | .cmpDpDp dst src => [0x69, src, dst]
  | .cmpDpImm d imm => [0x78, imm, d]
  | .cmpXImm imm => [0xC8, imm]
  | .cmpXDp d => [0x3E, d]
  | .cmpXAbs addr => encodeWord 0x1E addr
  | .cmpYImm imm => [0xAD, imm]
  | .cmpYDp d => [0x7E, d]
  | .cmpYAbs addr => encodeWord 0x5E addr
  | .andAImm imm => [0x28, imm]
  | .andAIndX => [0x26]
  | .andADp d => [0x24, d]
  | .andADpPlusX d => [0x34, d]
  | .andAAbs addr => encodeWord 0x25 addr
  | .andAAbsPlusX addr => encodeWord 0x35 addr
  | .andAAbsPlusY addr => encodeWord 0x36 addr
  | .andAIndDpX d => [0x27, d]
  | .andAIndDpPlusY d => [0x37, d]
  | .andIndXIndY => [0x39]
  | .andDpDp dst src => [0x29, src, dst]
  | .andDpImm d imm => [0x38, imm, d]
  | .orAImm imm => [0x08, imm]
  | .orAIndX => [0x06]
  | .orADp d => [0x04, d]
  | .orADpPlusX d => [0x14, d]
  | .orAAbs addr => encodeWord 0x05 addr
  | .orAAbsPlusX addr => encodeWord 0x15 addr
  | .orAAbsPlusY addr => encodeWord 0x16 addr
  | .orAIndDpX d => [0x07, d]
  | .orAIndDpPlusY d => [0x17, d]
  | .orIndXIndY => [0x19]
  | .orDpDp dst src => [0x09, src, dst]
  | .orDpImm d imm => [0x18, imm, d]
  | .eorAImm imm => [0x48, imm]
  | .eorAIndX => [0x46]
  | .eorADp d => [0x44, d]
  | .eorADpPlusX d => [0x54, d]
  | .eorAAbs addr => encodeWord 0x45 addr
  | .eorAAbsPlusX addr => encodeWord 0x55 addr
  | .eorAAbsPlusY addr => encodeWord 0x56 addr
  | .eorAIndDpX d => [0x47, d]
  | .eorAIndDpPlusY d => [0x57, d]
  | .eorIndXIndY => [0x59]
  | .eorDpDp dst src => [0x49, src, dst]
  | .eorDpImm d imm => [0x58, imm, d]
  | .incA => [0xBC]
  | .incDp d => [0xAB, d]
  | .incDpPlusX d => [0xBB, d]
  | .incAbs addr => encodeWord 0xAC addr
  | .incX => [0x3D]
  | .incY => [0xFC]
  | .decA => [0x9C]
  | .decDp d => [0x8B, d]
  | .decDpPlusX d => [0x9B, d]
  | .decAbs addr => encodeWord 0x8C addr
  | .decX => [0x1D]
  | .decY => [0xDC]
  | .aslA => [0x1C]
  | .aslDp d => [0x0B, d]
  | .aslDpPlusX d => [0x1B, d]
  | .aslAbs addr => encodeWord 0x0C addr
  | .lsrA => [0x5C]
  | .lsrDp d => [0x4B, d]
  | .lsrDpPlusX d => [0x5B, d]
  | .lsrAbs addr => encodeWord 0x4C addr
  | .rolA => [0x3C]
  | .rolDp d => [0x2B, d]
  | .rolDpPlusX d => [0x3B, d]
  | .rolAbs addr => encodeWord 0x2C addr
  | .rorA => [0x7C]
  | .rorDp d => [0x6B, d]
  | .rorDpPlusX d => [0x7B, d]
  | .rorAbs addr => encodeWord 0x6C addr
  | .xcnA => [0x9F]
  | .movwYaDp d => [0xBA, d]
  | .movwDpYa d => [0xDA, d]
  | .incwDp d => [0x3A, d]
  | .decwDp d => [0x1A, d]
  | .addwYaDp d => [0x7A, d]
  | .subwYaDp d => [0x9A, d]
  | .cmpwYaDp d => [0x5A, d]
  | .mulYa => [0xCF]
  | .divYaX => [0x9E]
  | .daaA => [0xDF]
  | .dasA => [0xBE]
  | .bra rel => [0x2F, rel]
  | .beq rel => [0xF0, rel]
  | .bne rel => [0xD0, rel]
  | .bcs rel => [0xB0, rel]
  | .bcc rel => [0x90, rel]
  | .bvs rel => [0x70, rel]
  | .bvc rel => [0x50, rel]
  | .bmi rel => [0x30, rel]
  | .bpl rel => [0x10, rel]
  | .bbs bit d rel => [bitCode 0x03 bit, d, rel]
  | .bbc bit d rel => [bitCode 0x13 bit, d, rel]
  | .cbneDp d rel => [0x2E, d, rel]
  | .cbneDpPlusX d rel => [0xDE, d, rel]
  | .dbnzDp d rel => [0x6E, d, rel]
  | .dbnzY rel => [0xFE, rel]
  | .jmpAbs addr => encodeWord 0x5F addr
  | .jmpIndAbsPlusX addr => encodeWord 0x1F addr
  | .callAbs addr => encodeWord 0x3F addr
  | .pcall upage => [0x4F, upage]
  | .tcall n => [(BitVec.ofNat 8 n <<< 4) ||| 0x01]
  | .brk => [0x0F]
  | .ret => [0x6F]
  | .ret1 => [0x7F]
  | .pushA => [0x2D]
  | .pushX => [0x4D]
  | .pushY => [0x6D]
  | .pushPsw => [0x0D]
  | .popA => [0xAE]
  | .popX => [0xCE]
  | .popY => [0xEE]
  | .popPsw => [0x8E]
  | .set1 bit d => [bitCode 0x02 bit, d]
  | .clr1 bit d => [bitCode 0x12 bit, d]
  | .tset1Abs addr => encodeWord 0x0E addr
  | .tclr1Abs addr => encodeWord 0x4E addr
  | .and1CMem addr bit => encodeWord 0x4A (Machine.packMemBit addr bit)
  | .and1CNotMem addr bit => encodeWord 0x6A (Machine.packMemBit addr bit)
  | .or1CMem addr bit => encodeWord 0x0A (Machine.packMemBit addr bit)
  | .or1CNotMem addr bit => encodeWord 0x2A (Machine.packMemBit addr bit)
  | .eor1CMem addr bit => encodeWord 0x8A (Machine.packMemBit addr bit)
  | .not1Mem addr bit => encodeWord 0xEA (Machine.packMemBit addr bit)
  | .mov1CMem addr bit => encodeWord 0xAA (Machine.packMemBit addr bit)
  | .mov1MemC addr bit => encodeWord 0xCA (Machine.packMemBit addr bit)
  | .clrc => [0x60]
  | .setc => [0x80]
  | .notc => [0xED]
  | .clrv => [0xE0]
  | .clrp => [0x20]
  | .setp => [0x40]
  | .ei => [0xA0]
  | .di => [0xC0]
  | .nop => [0x00]
  | .sleep => [0xEF]
  | .stop => [0xFF]

/-- The length of an instruction in bytes, from the lists of 30_encoding.md R101. -/
def Instr.length : Instr → Nat
  | .movAImm _ => 2
  | .movAIndX => 1
  | .movAIndXInc => 1
  | .movADp _ => 2
  | .movADpPlusX _ => 2
  | .movAAbs _ => 3
  | .movAAbsPlusX _ => 3
  | .movAAbsPlusY _ => 3
  | .movAIndDpX _ => 2
  | .movAIndDpPlusY _ => 2
  | .movXImm _ => 2
  | .movXDp _ => 2
  | .movXDpPlusY _ => 2
  | .movXAbs _ => 3
  | .movYImm _ => 2
  | .movYDp _ => 2
  | .movYDpPlusX _ => 2
  | .movYAbs _ => 3
  | .movIndXA => 1
  | .movIndXIncA => 1
  | .movDpA _ => 2
  | .movDpPlusXA _ => 2
  | .movAbsA _ => 3
  | .movAbsPlusXA _ => 3
  | .movAbsPlusYA _ => 3
  | .movIndDpXA _ => 2
  | .movIndDpPlusYA _ => 2
  | .movDpX _ => 2
  | .movDpPlusYX _ => 2
  | .movAbsX _ => 3
  | .movDpY _ => 2
  | .movDpPlusXY _ => 2
  | .movAbsY _ => 3
  | .movAX => 1
  | .movAY => 1
  | .movXA => 1
  | .movYA => 1
  | .movXSp => 1
  | .movSpX => 1
  | .movDpDp _ _ => 3
  | .movDpImm _ _ => 3
  | .adcAImm _ => 2
  | .adcAIndX => 1
  | .adcADp _ => 2
  | .adcADpPlusX _ => 2
  | .adcAAbs _ => 3
  | .adcAAbsPlusX _ => 3
  | .adcAAbsPlusY _ => 3
  | .adcAIndDpX _ => 2
  | .adcAIndDpPlusY _ => 2
  | .adcIndXIndY => 1
  | .adcDpDp _ _ => 3
  | .adcDpImm _ _ => 3
  | .sbcAImm _ => 2
  | .sbcAIndX => 1
  | .sbcADp _ => 2
  | .sbcADpPlusX _ => 2
  | .sbcAAbs _ => 3
  | .sbcAAbsPlusX _ => 3
  | .sbcAAbsPlusY _ => 3
  | .sbcAIndDpX _ => 2
  | .sbcAIndDpPlusY _ => 2
  | .sbcIndXIndY => 1
  | .sbcDpDp _ _ => 3
  | .sbcDpImm _ _ => 3
  | .cmpAImm _ => 2
  | .cmpAIndX => 1
  | .cmpADp _ => 2
  | .cmpADpPlusX _ => 2
  | .cmpAAbs _ => 3
  | .cmpAAbsPlusX _ => 3
  | .cmpAAbsPlusY _ => 3
  | .cmpAIndDpX _ => 2
  | .cmpAIndDpPlusY _ => 2
  | .cmpIndXIndY => 1
  | .cmpDpDp _ _ => 3
  | .cmpDpImm _ _ => 3
  | .cmpXImm _ => 2
  | .cmpXDp _ => 2
  | .cmpXAbs _ => 3
  | .cmpYImm _ => 2
  | .cmpYDp _ => 2
  | .cmpYAbs _ => 3
  | .andAImm _ => 2
  | .andAIndX => 1
  | .andADp _ => 2
  | .andADpPlusX _ => 2
  | .andAAbs _ => 3
  | .andAAbsPlusX _ => 3
  | .andAAbsPlusY _ => 3
  | .andAIndDpX _ => 2
  | .andAIndDpPlusY _ => 2
  | .andIndXIndY => 1
  | .andDpDp _ _ => 3
  | .andDpImm _ _ => 3
  | .orAImm _ => 2
  | .orAIndX => 1
  | .orADp _ => 2
  | .orADpPlusX _ => 2
  | .orAAbs _ => 3
  | .orAAbsPlusX _ => 3
  | .orAAbsPlusY _ => 3
  | .orAIndDpX _ => 2
  | .orAIndDpPlusY _ => 2
  | .orIndXIndY => 1
  | .orDpDp _ _ => 3
  | .orDpImm _ _ => 3
  | .eorAImm _ => 2
  | .eorAIndX => 1
  | .eorADp _ => 2
  | .eorADpPlusX _ => 2
  | .eorAAbs _ => 3
  | .eorAAbsPlusX _ => 3
  | .eorAAbsPlusY _ => 3
  | .eorAIndDpX _ => 2
  | .eorAIndDpPlusY _ => 2
  | .eorIndXIndY => 1
  | .eorDpDp _ _ => 3
  | .eorDpImm _ _ => 3
  | .incA => 1
  | .incDp _ => 2
  | .incDpPlusX _ => 2
  | .incAbs _ => 3
  | .incX => 1
  | .incY => 1
  | .decA => 1
  | .decDp _ => 2
  | .decDpPlusX _ => 2
  | .decAbs _ => 3
  | .decX => 1
  | .decY => 1
  | .aslA => 1
  | .aslDp _ => 2
  | .aslDpPlusX _ => 2
  | .aslAbs _ => 3
  | .lsrA => 1
  | .lsrDp _ => 2
  | .lsrDpPlusX _ => 2
  | .lsrAbs _ => 3
  | .rolA => 1
  | .rolDp _ => 2
  | .rolDpPlusX _ => 2
  | .rolAbs _ => 3
  | .rorA => 1
  | .rorDp _ => 2
  | .rorDpPlusX _ => 2
  | .rorAbs _ => 3
  | .xcnA => 1
  | .movwYaDp _ => 2
  | .movwDpYa _ => 2
  | .incwDp _ => 2
  | .decwDp _ => 2
  | .addwYaDp _ => 2
  | .subwYaDp _ => 2
  | .cmpwYaDp _ => 2
  | .mulYa => 1
  | .divYaX => 1
  | .daaA => 1
  | .dasA => 1
  | .bra _ => 2
  | .beq _ => 2
  | .bne _ => 2
  | .bcs _ => 2
  | .bcc _ => 2
  | .bvs _ => 2
  | .bvc _ => 2
  | .bmi _ => 2
  | .bpl _ => 2
  | .bbs _ _ _ => 3
  | .bbc _ _ _ => 3
  | .cbneDp _ _ => 3
  | .cbneDpPlusX _ _ => 3
  | .dbnzDp _ _ => 3
  | .dbnzY _ => 2
  | .jmpAbs _ => 3
  | .jmpIndAbsPlusX _ => 3
  | .callAbs _ => 3
  | .pcall _ => 2
  | .tcall _ => 1
  | .brk => 1
  | .ret => 1
  | .ret1 => 1
  | .pushA => 1
  | .pushX => 1
  | .pushY => 1
  | .pushPsw => 1
  | .popA => 1
  | .popX => 1
  | .popY => 1
  | .popPsw => 1
  | .set1 _ _ => 2
  | .clr1 _ _ => 2
  | .tset1Abs _ => 3
  | .tclr1Abs _ => 3
  | .and1CMem _ _ => 3
  | .and1CNotMem _ _ => 3
  | .or1CMem _ _ => 3
  | .or1CNotMem _ _ => 3
  | .eor1CMem _ _ => 3
  | .not1Mem _ _ => 3
  | .mov1CMem _ _ => 3
  | .mov1MemC _ _ => 3
  | .clrc => 1
  | .setc => 1
  | .notc => 1
  | .clrv => 1
  | .clrp => 1
  | .setp => 1
  | .ei => 1
  | .di => 1
  | .nop => 1
  | .sleep => 1
  | .stop => 1

/-- The `k`-th byte of a word whose first byte is its least significant. -/
def byteOf (w k : Nat) : Byte := BitVec.ofNat 8 (w / 256 ^ k)

/-- The instruction that the decoder reads from the bits of `w` as the opcode table numbers them: the first byte is
bits 7..0, the second bits 15..8, the third bits 23..16, and every bit from `nbits` on is 0. -/
def decodeTableWord (nbits w : Nat) : Option Instr :=
  let w := w % 2 ^ nbits
  match decode [byteOf w 0, byteOf w 1, byteOf w 2] with
  | .ok (i, _) => some i
  | .error _ => none

end Sys2Proof
end

