-- ==== Sys2Proof/Machine/Fetch.lean ====
section
/-! DEFINITION. Fetching an instruction (30_encoding.md R100, R101, 20_memory.md R54, R91). -/

namespace Sys2Proof.Machine

/-- An operand byte: read if the length of the instruction includes it, and not looked at otherwise
(30_encoding.md R101). -/
def operandByte (included : Bool) (addr : Addr) (s : State) : Except Refusal (Byte × State) :=
  if included then readByte addr s else .ok (0, s)

/-- Fetch and decode: the code at pc, then the operand bytes that its length asks for at the next addresses modulo
65536, then pc advanced past them (30_encoding.md R101, 10_state.md R26, log 30). -/
def fetch (s : State) : Except Refusal (Instr × State) := do
  let pc := s.pc
  let (code, s) ← readByte pc s
  match rowOf code with
  | none => .error (.undecodable code)
  | some row =>
    let (op1, s) ← operandByte (decide (2 ≤ row.layout.length)) (pc + 1) s
    let (op2, s) ← operandByte (decide (row.layout.length = 3)) (pc + 2) s
    return (row.layout.read code op1 op2, { s with pc := pc + BitVec.ofNat 16 row.layout.length })

end Sys2Proof.Machine
end

