-- ==== Sys2Proof/Machine/Step.lean ====
section
/-! DEFINITION. One step of the machine (00_scope.md R8). -/

namespace Sys2Proof.Machine

/-- One step: while the run state is Running, fetch an instruction and perform it (00_scope.md R8, 30_encoding.md R101);
in a standby state the CPU has no step (10_state.md R40, 60_exceptions.md R615, log 26). -/
def step (s : State) : Host.Outcome State Fault Refusal :=
  match s.run with
  | .sleep => .fault .standbySleep
  | .stop => .fault .standbyStop
  | .running =>
    match fetch s with
    | .ok (i, t) => exec i t
    | .error r => .refused r

/-- The addresses of the longest instruction at pc (30_encoding.md R100). -/
def State.fetchWindow (s : State) : List Addr := [s.pc, s.pc + 1, s.pc + 2]

/-- The state with the instruction whose bits are `w` placed where the next step fetches (log 32): its three bytes, the
bits from `nbits` on zero, stand at pc; the machine runs; no environment answers at those addresses; and where one of
them lies in the "Unusable" range, that range acts as RAM. -/
def State.withFetchWord (s : State) (nbits w : Nat) : State :=
  let w := w % 2 ^ nbits
  { s with
    mem := Memory.write (Memory.write (Memory.write s.mem s.pc.toNat (byteOf w 0)) (s.pc + 1).toNat (byteOf w 1))
      (s.pc + 2).toNat (byteOf w 2)
    run := .running
    cfg := { s.cfg with
      ioRegion := s.cfg.ioRegion.filter (fun a => !s.fetchWindow.contains a)
      unusablePolicy := if s.fetchWindow.any (fun a => s.region a == .unusable) then .ram else s.cfg.unusablePolicy } }

end Sys2Proof.Machine
end

