-- ==== Sys2Proof/Machine/Reset.lean ====
section
/-! DEFINITION. The reset event (70_reset_and_hazards.md R700 to R702), which the environment raises between steps and
which is no instruction and no step (log 28). -/

namespace Sys2Proof.Machine

/-- What the environment chooses at a reset (70_reset_and_hazards.md R700): the registers, the flags B and I, and the
memory outside the ROM. -/
structure ResetDraw where
  a : Byte
  x : Byte
  y : Byte
  sp : Byte
  b : Bool
  i : Bool
  ram : Memory
  deriving DecidableEq, Repr

/-- The memory after a reset: below the ROM what the environment drew, in the ROM what was there
(70_reset_and_hazards.md R700). -/
def resetMemory (ram old : Memory) : Memory :=
  ram.filter (fun c => c.1 < romBase.toNat) ++ old.filter (fun c => romBase.toNat ≤ c.1)

/-- The reset event in any run state: pc from FFFE and FFFF, N V P H Z C are 0, everything else that the spec calls
arbitrary from the draw, run state Running (70_reset_and_hazards.md R700, R702, 10_state.md R42). The parameters and the
record of the environment are not the CPU's and stay. -/
def resetEvent (draw : ResetDraw) (s : State) : Except Refusal State := do
  let (target, s) ← readWord 0xFFFE s
  return { s with
    a := draw.a
    x := draw.x
    y := draw.y
    sp := draw.sp
    psw := withBit (withBit 0 Flag.b.bit draw.b) Flag.i.bit draw.i
    pc := target
    mem := resetMemory draw.ram s.mem
    run := .running }

end Sys2Proof.Machine
end

