-- ==== Sys2Proof/Safety.lean ====
section
/-! DEFINITION. The terms in which claims about the machine are stated: what a store leaves, what flags a result gives,
what an instruction may write at most, and the invariant of memory. Nothing of the machine uses them. -/

namespace Sys2Proof.Machine

/-! ## What an instruction leaves -/

/-- Every flag outside the list is as it was (10_state.md R44). -/
def FlagsKept (written : List Flag) (s t : State) : Prop := ∀ f, f ∉ written → t.flag f = s.flag f

/-- N and Z say what a byte is (40_mov8.md R200). -/
def NZOf8 (v : Byte) (t : State) : Prop := t.flag .n = testBit8 v 7 ∧ t.flag .z = decide (v = 0)

/-- N and Z say what a word is (44_word16.md R390). -/
def NZOf16 (w : Word) (t : State) : Prop := t.flag .n = w.getLsbD 15 ∧ t.flag .z = decide (w = 0)

/-- The bytes of `stores`, at different addresses, were stored in this order and nothing else: outside IO_REGION each
reads back and every other address reads as before; those of IO_REGION are recorded and change no cell
(20_memory.md R51, R57). -/
def Stores (stores : List (Addr × Byte)) (s t : State) : Prop :=
  t.ioLog = s.ioLog ++ (stores.filter (fun c => s.isIo c.1)).map (fun c => (c.1.toNat, c.2)) ∧
  (∀ c ∈ stores, s.isIo c.1 = false → Memory.read t.mem c.1.toNat = c.2) ∧
  ∀ k : Nat, (∀ c ∈ stores, s.isIo c.1 = false → c.1.toNat ≠ k) → Memory.read t.mem k = Memory.read s.mem k

/-- The bytes at `n` addresses from `a` on as the machine reads them one after the other, and the state after the
reads (20_memory.md R51, R57). -/
def readRun : Nat → Addr → State → List Byte × State
  | 0, _, s => ([], s)
  | n + 1, a, s => (s.byteAt a :: (readRun n (a + 1) (s.afterRead a)).1, (readRun n (a + 1) (s.afterRead a)).2)

/-! ## What the arithmetic of the spec says of operands, old state and new state -/

/-- `adc8(a, m)` gives `r` and the flags N V H Z C (41_arith8.md R250). -/
def IsAdc8 (a m : Byte) (s t : State) (r : Byte) : Prop :=
  r.toNat = (a.toNat + m.toNat + (s.flag .c).toNat) % 256 ∧
  t.flag .c = decide (255 < a.toNat + m.toNat + (s.flag .c).toNat) ∧
  t.flag .h = decide (15 < a.toNat % 16 + m.toNat % 16 + (s.flag .c).toNat) ∧
  t.flag .v = (testBit8 a 7 == testBit8 m 7 && testBit8 r 7 != testBit8 a 7) ∧
  NZOf8 r t ∧ FlagsKept [.n, .v, .h, .z, .c] s t

/-- `sbc8(a, m)` gives `r` and the flags N V H Z C (41_arith8.md R251); the borrow is 1 - C, and the differences are of
unbounded integers. -/
def IsSbc8 (a m : Byte) (s t : State) (r : Byte) : Prop :=
  (r.toNat : Int) = ((a.toNat : Int) - m.toNat - (1 - (s.flag .c).toNat)) % 256 ∧
  t.flag .c = decide (0 ≤ (a.toNat : Int) - m.toNat - (1 - (s.flag .c).toNat)) ∧
  t.flag .h = decide (0 ≤ ((a.toNat % 16 : Nat) : Int) - (m.toNat % 16 : Nat) - (1 - (s.flag .c).toNat)) ∧
  t.flag .v = (testBit8 a 7 != testBit8 m 7 && testBit8 r 7 != testBit8 a 7) ∧
  NZOf8 r t ∧ FlagsKept [.n, .v, .h, .z, .c] s t

/-- `cmp8(a, m)` gives the flags N Z C (41_arith8.md R252); Z says that the operands are equal. -/
def IsCmp8 (a m : Byte) (s t : State) : Prop :=
  t.flag .c = decide (m.toNat ≤ a.toNat) ∧ NZOf8 (a - m) t ∧ t.flag .z = decide (a = m) ∧ FlagsKept [.n, .z, .c] s t

/-- A result of a logic, increment or decrement operation: N and Z of it, no other flag (42_logic8.md R300,
43_incdec_shift.md R350). -/
def IsNZ8 (r : Byte) (s t : State) : Prop := NZOf8 r t ∧ FlagsKept [.n, .z] s t

/-- A result of a shift: N and Z of it, C the bit shifted out, no other flag (43_incdec_shift.md R351 to R354). -/
def IsShift8 (r : Byte) (out : Bool) (s t : State) : Prop :=
  NZOf8 r t ∧ t.flag .c = out ∧ FlagsKept [.n, .z, .c] s t

/-- The flags of `addw16` or `subw16` other than H: C as given, V the signed overflow (44_word16.md R391, R392). -/
def IsWordSum (r : Word) (c v : Bool) (s t : State) : Prop :=
  NZOf16 r t ∧ t.flag .c = c ∧ t.flag .v = v ∧ FlagsKept [.n, .v, .h, .z, .c] s t

/-! ## What an instruction writes at most -/

/-- The bits of the PSW that an instruction may write (10_state.md R44, the column "flags" of the opcode table); CMPW
writes C where CMPW_WRITES_C says so (log 16), SETP may leave I (log 17). -/
def flagsWritten (cfg : Config.Settings) : Instr → Byte
  | .movAImm _ => 0x82
  | .movAIndX => 0x82
  | .movAIndXInc => 0x82
  | .movADp _ => 0x82
  | .movADpPlusX _ => 0x82
  | .movAAbs _ => 0x82
  | .movAAbsPlusX _ => 0x82
  | .movAAbsPlusY _ => 0x82
  | .movAIndDpX _ => 0x82
  | .movAIndDpPlusY _ => 0x82
  | .movXImm _ => 0x82
  | .movXDp _ => 0x82
  | .movXDpPlusY _ => 0x82
  | .movXAbs _ => 0x82
  | .movYImm _ => 0x82
  | .movYDp _ => 0x82
  | .movYDpPlusX _ => 0x82
  | .movYAbs _ => 0x82
  | .movIndXA => 0x00
  | .movIndXIncA => 0x00
  | .movDpA _ => 0x00
  | .movDpPlusXA _ => 0x00
  | .movAbsA _ => 0x00
  | .movAbsPlusXA _ => 0x00
  | .movAbsPlusYA _ => 0x00
  | .movIndDpXA _ => 0x00
  | .movIndDpPlusYA _ => 0x00
  | .movDpX _ => 0x00
  | .movDpPlusYX _ => 0x00
  | .movAbsX _ => 0x00
  | .movDpY _ => 0x00
  | .movDpPlusXY _ => 0x00
  | .movAbsY _ => 0x00
  | .movAX => 0x82
  | .movAY => 0x82
  | .movXA => 0x82
  | .movYA => 0x82
  | .movXSp => 0x82
  | .movSpX => 0x00
  | .movDpDp _ _ => 0x00
  | .movDpImm _ _ => 0x00
  | .adcAImm _ => 0xCB
  | .adcAIndX => 0xCB
  | .adcADp _ => 0xCB
  | .adcADpPlusX _ => 0xCB
  | .adcAAbs _ => 0xCB
  | .adcAAbsPlusX _ => 0xCB
  | .adcAAbsPlusY _ => 0xCB
  | .adcAIndDpX _ => 0xCB
  | .adcAIndDpPlusY _ => 0xCB
  | .adcIndXIndY => 0xCB
  | .adcDpDp _ _ => 0xCB
  | .adcDpImm _ _ => 0xCB
  | .sbcAImm _ => 0xCB
  | .sbcAIndX => 0xCB
  | .sbcADp _ => 0xCB
  | .sbcADpPlusX _ => 0xCB
  | .sbcAAbs _ => 0xCB
  | .sbcAAbsPlusX _ => 0xCB
  | .sbcAAbsPlusY _ => 0xCB
  | .sbcAIndDpX _ => 0xCB
  | .sbcAIndDpPlusY _ => 0xCB
  | .sbcIndXIndY => 0xCB
  | .sbcDpDp _ _ => 0xCB
  | .sbcDpImm _ _ => 0xCB
  | .cmpAImm _ => 0x83
  | .cmpAIndX => 0x83
  | .cmpADp _ => 0x83
  | .cmpADpPlusX _ => 0x83
  | .cmpAAbs _ => 0x83
  | .cmpAAbsPlusX _ => 0x83
  | .cmpAAbsPlusY _ => 0x83
  | .cmpAIndDpX _ => 0x83
  | .cmpAIndDpPlusY _ => 0x83
  | .cmpIndXIndY => 0x83
  | .cmpDpDp _ _ => 0x83
  | .cmpDpImm _ _ => 0x83
  | .cmpXImm _ => 0x83
  | .cmpXDp _ => 0x83
  | .cmpXAbs _ => 0x83
  | .cmpYImm _ => 0x83
  | .cmpYDp _ => 0x83
  | .cmpYAbs _ => 0x83
  | .andAImm _ => 0x82
  | .andAIndX => 0x82
  | .andADp _ => 0x82
  | .andADpPlusX _ => 0x82
  | .andAAbs _ => 0x82
  | .andAAbsPlusX _ => 0x82
  | .andAAbsPlusY _ => 0x82
  | .andAIndDpX _ => 0x82
  | .andAIndDpPlusY _ => 0x82
  | .andIndXIndY => 0x82
  | .andDpDp _ _ => 0x82
  | .andDpImm _ _ => 0x82
  | .orAImm _ => 0x82
  | .orAIndX => 0x82
  | .orADp _ => 0x82
  | .orADpPlusX _ => 0x82
  | .orAAbs _ => 0x82
  | .orAAbsPlusX _ => 0x82
  | .orAAbsPlusY _ => 0x82
  | .orAIndDpX _ => 0x82
  | .orAIndDpPlusY _ => 0x82
  | .orIndXIndY => 0x82
  | .orDpDp _ _ => 0x82
  | .orDpImm _ _ => 0x82
  | .eorAImm _ => 0x82
  | .eorAIndX => 0x82
  | .eorADp _ => 0x82
  | .eorADpPlusX _ => 0x82
  | .eorAAbs _ => 0x82
  | .eorAAbsPlusX _ => 0x82
  | .eorAAbsPlusY _ => 0x82
  | .eorAIndDpX _ => 0x82
  | .eorAIndDpPlusY _ => 0x82
  | .eorIndXIndY => 0x82
  | .eorDpDp _ _ => 0x82
  | .eorDpImm _ _ => 0x82
  | .incA => 0x82
  | .incDp _ => 0x82
  | .incDpPlusX _ => 0x82
  | .incAbs _ => 0x82
  | .incX => 0x82
  | .incY => 0x82
  | .decA => 0x82
  | .decDp _ => 0x82
  | .decDpPlusX _ => 0x82
  | .decAbs _ => 0x82
  | .decX => 0x82
  | .decY => 0x82
  | .aslA => 0x83
  | .aslDp _ => 0x83
  | .aslDpPlusX _ => 0x83
  | .aslAbs _ => 0x83
  | .lsrA => 0x83
  | .lsrDp _ => 0x83
  | .lsrDpPlusX _ => 0x83
  | .lsrAbs _ => 0x83
  | .rolA => 0x83
  | .rolDp _ => 0x83
  | .rolDpPlusX _ => 0x83
  | .rolAbs _ => 0x83
  | .rorA => 0x83
  | .rorDp _ => 0x83
  | .rorDpPlusX _ => 0x83
  | .rorAbs _ => 0x83
  | .xcnA => 0x82
  | .movwYaDp _ => 0x82
  | .movwDpYa _ => 0x00
  | .incwDp _ => 0x82
  | .decwDp _ => 0x82
  | .addwYaDp _ => 0xCB
  | .subwYaDp _ => 0xCB
  | .cmpwYaDp _ => if cfg.cmpwWritesC then 0x83 else 0x82
  | .mulYa => 0x82
  | .divYaX => 0xCA
  | .daaA => 0x83
  | .dasA => 0x83
  | .bra _ => 0x00
  | .beq _ => 0x00
  | .bne _ => 0x00
  | .bcs _ => 0x00
  | .bcc _ => 0x00
  | .bvs _ => 0x00
  | .bvc _ => 0x00
  | .bmi _ => 0x00
  | .bpl _ => 0x00
  | .bbs _ _ _ => 0x00
  | .bbc _ _ _ => 0x00
  | .cbneDp _ _ => 0x00
  | .cbneDpPlusX _ _ => 0x00
  | .dbnzDp _ _ => 0x00
  | .dbnzY _ => 0x00
  | .jmpAbs _ => 0x00
  | .jmpIndAbsPlusX _ => 0x00
  | .callAbs _ => 0x00
  | .pcall _ => 0x00
  | .tcall _ => 0x00
  | .brk => 0x14
  | .ret => 0x00
  | .ret1 => 0xFF
  | .pushA => 0x00
  | .pushX => 0x00
  | .pushY => 0x00
  | .pushPsw => 0x00
  | .popA => 0x00
  | .popX => 0x00
  | .popY => 0x00
  | .popPsw => 0xFF
  | .set1 _ _ => 0x00
  | .clr1 _ _ => 0x00
  | .tset1Abs _ => 0x82
  | .tclr1Abs _ => 0x82
  | .and1CMem _ _ => 0x01
  | .and1CNotMem _ _ => 0x01
  | .or1CMem _ _ => 0x01
  | .or1CNotMem _ _ => 0x01
  | .eor1CMem _ _ => 0x01
  | .not1Mem _ _ => 0x00
  | .mov1CMem _ _ => 0x01
  | .mov1MemC _ _ => 0x00
  | .clrc => 0x01
  | .setc => 0x01
  | .notc => 0x01
  | .clrv => 0x48
  | .clrp => 0x20
  | .setp => 0x24
  | .ei => 0x04
  | .di => 0x04
  | .nop => 0x00
  | .sleep => 0x00
  | .stop => 0x00

/-- The byte registers besides the PSW. -/
inductive RegName where
  | a | x | y | sp
  deriving DecidableEq, Repr

/-- The value of a byte register. -/
def State.byteReg (s : State) : RegName → Byte
  | .a => s.a
  | .x => s.x
  | .y => s.y
  | .sp => s.sp

/-- The byte registers that an instruction may write (10_state.md R43). -/
def registersWritten : Instr → List RegName
  | .movAImm _ => [.a]
  | .movAIndX => [.a]
  | .movAIndXInc => [.a, .x]
  | .movADp _ => [.a]
  | .movADpPlusX _ => [.a]
  | .movAAbs _ => [.a]
  | .movAAbsPlusX _ => [.a]
  | .movAAbsPlusY _ => [.a]
  | .movAIndDpX _ => [.a]
  | .movAIndDpPlusY _ => [.a]
  | .movXImm _ => [.x]
  | .movXDp _ => [.x]
  | .movXDpPlusY _ => [.x]
  | .movXAbs _ => [.x]
  | .movYImm _ => [.y]
  | .movYDp _ => [.y]
  | .movYDpPlusX _ => [.y]
  | .movYAbs _ => [.y]
  | .movIndXA => []
  | .movIndXIncA => [.x]
  | .movDpA _ => []
  | .movDpPlusXA _ => []
  | .movAbsA _ => []
  | .movAbsPlusXA _ => []
  | .movAbsPlusYA _ => []
  | .movIndDpXA _ => []
  | .movIndDpPlusYA _ => []
  | .movDpX _ => []
  | .movDpPlusYX _ => []
  | .movAbsX _ => []
  | .movDpY _ => []
  | .movDpPlusXY _ => []
  | .movAbsY _ => []
  | .movAX => [.a]
  | .movAY => [.a]
  | .movXA => [.x]
  | .movYA => [.y]
  | .movXSp => [.x]
  | .movSpX => [.sp]
  | .movDpDp _ _ => []
  | .movDpImm _ _ => []
  | .adcAImm _ => [.a]
  | .adcAIndX => [.a]
  | .adcADp _ => [.a]
  | .adcADpPlusX _ => [.a]
  | .adcAAbs _ => [.a]
  | .adcAAbsPlusX _ => [.a]
  | .adcAAbsPlusY _ => [.a]
  | .adcAIndDpX _ => [.a]
  | .adcAIndDpPlusY _ => [.a]
  | .adcIndXIndY => []
  | .adcDpDp _ _ => []
  | .adcDpImm _ _ => []
  | .sbcAImm _ => [.a]
  | .sbcAIndX => [.a]
  | .sbcADp _ => [.a]
  | .sbcADpPlusX _ => [.a]
  | .sbcAAbs _ => [.a]
  | .sbcAAbsPlusX _ => [.a]
  | .sbcAAbsPlusY _ => [.a]
  | .sbcAIndDpX _ => [.a]
  | .sbcAIndDpPlusY _ => [.a]
  | .sbcIndXIndY => []
  | .sbcDpDp _ _ => []
  | .sbcDpImm _ _ => []
  | .cmpAImm _ => []
  | .cmpAIndX => []
  | .cmpADp _ => []
  | .cmpADpPlusX _ => []
  | .cmpAAbs _ => []
  | .cmpAAbsPlusX _ => []
  | .cmpAAbsPlusY _ => []
  | .cmpAIndDpX _ => []
  | .cmpAIndDpPlusY _ => []
  | .cmpIndXIndY => []
  | .cmpDpDp _ _ => []
  | .cmpDpImm _ _ => []
  | .cmpXImm _ => []
  | .cmpXDp _ => []
  | .cmpXAbs _ => []
  | .cmpYImm _ => []
  | .cmpYDp _ => []
  | .cmpYAbs _ => []
  | .andAImm _ => [.a]
  | .andAIndX => [.a]
  | .andADp _ => [.a]
  | .andADpPlusX _ => [.a]
  | .andAAbs _ => [.a]
  | .andAAbsPlusX _ => [.a]
  | .andAAbsPlusY _ => [.a]
  | .andAIndDpX _ => [.a]
  | .andAIndDpPlusY _ => [.a]
  | .andIndXIndY => []
  | .andDpDp _ _ => []
  | .andDpImm _ _ => []
  | .orAImm _ => [.a]
  | .orAIndX => [.a]
  | .orADp _ => [.a]
  | .orADpPlusX _ => [.a]
  | .orAAbs _ => [.a]
  | .orAAbsPlusX _ => [.a]
  | .orAAbsPlusY _ => [.a]
  | .orAIndDpX _ => [.a]
  | .orAIndDpPlusY _ => [.a]
  | .orIndXIndY => []
  | .orDpDp _ _ => []
  | .orDpImm _ _ => []
  | .eorAImm _ => [.a]
  | .eorAIndX => [.a]
  | .eorADp _ => [.a]
  | .eorADpPlusX _ => [.a]
  | .eorAAbs _ => [.a]
  | .eorAAbsPlusX _ => [.a]
  | .eorAAbsPlusY _ => [.a]
  | .eorAIndDpX _ => [.a]
  | .eorAIndDpPlusY _ => [.a]
  | .eorIndXIndY => []
  | .eorDpDp _ _ => []
  | .eorDpImm _ _ => []
  | .incA => [.a]
  | .incDp _ => []
  | .incDpPlusX _ => []
  | .incAbs _ => []
  | .incX => [.x]
  | .incY => [.y]
  | .decA => [.a]
  | .decDp _ => []
  | .decDpPlusX _ => []
  | .decAbs _ => []
  | .decX => [.x]
  | .decY => [.y]
  | .aslA => [.a]
  | .aslDp _ => []
  | .aslDpPlusX _ => []
  | .aslAbs _ => []
  | .lsrA => [.a]
  | .lsrDp _ => []
  | .lsrDpPlusX _ => []
  | .lsrAbs _ => []
  | .rolA => [.a]
  | .rolDp _ => []
  | .rolDpPlusX _ => []
  | .rolAbs _ => []
  | .rorA => [.a]
  | .rorDp _ => []
  | .rorDpPlusX _ => []
  | .rorAbs _ => []
  | .xcnA => [.a]
  | .movwYaDp _ => [.a, .y]
  | .movwDpYa _ => []
  | .incwDp _ => []
  | .decwDp _ => []
  | .addwYaDp _ => [.a, .y]
  | .subwYaDp _ => [.a, .y]
  | .cmpwYaDp _ => []
  | .mulYa => [.a, .y]
  | .divYaX => [.a, .y]
  | .daaA => [.a]
  | .dasA => [.a]
  | .bra _ => []
  | .beq _ => []
  | .bne _ => []
  | .bcs _ => []
  | .bcc _ => []
  | .bvs _ => []
  | .bvc _ => []
  | .bmi _ => []
  | .bpl _ => []
  | .bbs _ _ _ => []
  | .bbc _ _ _ => []
  | .cbneDp _ _ => []
  | .cbneDpPlusX _ _ => []
  | .dbnzDp _ _ => []
  | .dbnzY _ => [.y]
  | .jmpAbs _ => []
  | .jmpIndAbsPlusX _ => []
  | .callAbs _ => [.sp]
  | .pcall _ => [.sp]
  | .tcall _ => [.sp]
  | .brk => [.sp]
  | .ret => [.sp]
  | .ret1 => [.sp]
  | .pushA => [.sp]
  | .pushX => [.sp]
  | .pushY => [.sp]
  | .pushPsw => [.sp]
  | .popA => [.a, .sp]
  | .popX => [.x, .sp]
  | .popY => [.y, .sp]
  | .popPsw => [.sp]
  | .set1 _ _ => []
  | .clr1 _ _ => []
  | .tset1Abs _ => []
  | .tclr1Abs _ => []
  | .and1CMem _ _ => []
  | .and1CNotMem _ _ => []
  | .or1CMem _ _ => []
  | .or1CNotMem _ _ => []
  | .eor1CMem _ _ => []
  | .not1Mem _ _ => []
  | .mov1CMem _ _ => []
  | .mov1MemC _ _ => []
  | .clrc => []
  | .setc => []
  | .notc => []
  | .clrv => []
  | .clrp => []
  | .setp => []
  | .ei => []
  | .di => []
  | .nop => []
  | .sleep => []
  | .stop => []

/-- The address that a memory operand names, if the accesses that computing it makes are allowed. -/
def addressOf (m : Mode) (s : State) : List Addr :=
  match ea m s with
  | .ok (addr, _) => [addr]
  | .error _ => []

/-- The direct-page word at an offset. -/
def wordDPAddresses (s : State) (d : Byte) : List Addr := [s.dp d, s.dp (d + 1)]

/-- The first `n` stack addresses that pushes store at. -/
def pushAddresses : Nat → Byte → List Addr
  | 0, _ => []
  | n + 1, sp => stackAddr sp :: pushAddresses n (sp - 1)

/-- The addresses that an instruction may store to: the destination of a store or of a read-modify-write, the stack slots
of a push (40_mov8.md to 48_bit.md). An instruction that stores nothing has none. -/
def storeAddresses (s : State) : Instr → List Addr
  | .movAImm _ => []
  | .movAIndX => []
  | .movAIndXInc => []
  | .movADp _ => []
  | .movADpPlusX _ => []
  | .movAAbs _ => []
  | .movAAbsPlusX _ => []
  | .movAAbsPlusY _ => []
  | .movAIndDpX _ => []
  | .movAIndDpPlusY _ => []
  | .movXImm _ => []
  | .movXDp _ => []
  | .movXDpPlusY _ => []
  | .movXAbs _ => []
  | .movYImm _ => []
  | .movYDp _ => []
  | .movYDpPlusX _ => []
  | .movYAbs _ => []
  | .movIndXA => addressOf .indX s
  | .movIndXIncA => addressOf .indX s
  | .movDpA d => addressOf (.dp d) s
  | .movDpPlusXA d => addressOf (.dpPlusX d) s
  | .movAbsA addr => addressOf (.abs addr) s
  | .movAbsPlusXA addr => addressOf (.absPlusX addr) s
  | .movAbsPlusYA addr => addressOf (.absPlusY addr) s
  | .movIndDpXA d => addressOf (.indDpX d) s
  | .movIndDpPlusYA d => addressOf (.indDpPlusY d) s
  | .movDpX d => addressOf (.dp d) s
  | .movDpPlusYX d => addressOf (.dpPlusY d) s
  | .movAbsX addr => addressOf (.abs addr) s
  | .movDpY d => addressOf (.dp d) s
  | .movDpPlusXY d => addressOf (.dpPlusX d) s
  | .movAbsY addr => addressOf (.abs addr) s
  | .movAX => []
  | .movAY => []
  | .movXA => []
  | .movYA => []
  | .movXSp => []
  | .movSpX => []
  | .movDpDp dst _ => addressOf (.dp dst) s
  | .movDpImm d _ => addressOf (.dp d) s
  | .adcAImm _ => []
  | .adcAIndX => []
  | .adcADp _ => []
  | .adcADpPlusX _ => []
  | .adcAAbs _ => []
  | .adcAAbsPlusX _ => []
  | .adcAAbsPlusY _ => []
  | .adcAIndDpX _ => []
  | .adcAIndDpPlusY _ => []
  | .adcIndXIndY => addressOf .indX s
  | .adcDpDp dst _ => addressOf (.dp dst) s
  | .adcDpImm d _ => addressOf (.dp d) s
  | .sbcAImm _ => []
  | .sbcAIndX => []
  | .sbcADp _ => []
  | .sbcADpPlusX _ => []
  | .sbcAAbs _ => []
  | .sbcAAbsPlusX _ => []
  | .sbcAAbsPlusY _ => []
  | .sbcAIndDpX _ => []
  | .sbcAIndDpPlusY _ => []
  | .sbcIndXIndY => addressOf .indX s
  | .sbcDpDp dst _ => addressOf (.dp dst) s
  | .sbcDpImm d _ => addressOf (.dp d) s
  | .cmpAImm _ => []
  | .cmpAIndX => []
  | .cmpADp _ => []
  | .cmpADpPlusX _ => []
  | .cmpAAbs _ => []
  | .cmpAAbsPlusX _ => []
  | .cmpAAbsPlusY _ => []
  | .cmpAIndDpX _ => []
  | .cmpAIndDpPlusY _ => []
  | .cmpIndXIndY => []
  | .cmpDpDp _ _ => []
  | .cmpDpImm _ _ => []
  | .cmpXImm _ => []
  | .cmpXDp _ => []
  | .cmpXAbs _ => []
  | .cmpYImm _ => []
  | .cmpYDp _ => []
  | .cmpYAbs _ => []
  | .andAImm _ => []
  | .andAIndX => []
  | .andADp _ => []
  | .andADpPlusX _ => []
  | .andAAbs _ => []
  | .andAAbsPlusX _ => []
  | .andAAbsPlusY _ => []
  | .andAIndDpX _ => []
  | .andAIndDpPlusY _ => []
  | .andIndXIndY => addressOf .indX s
  | .andDpDp dst _ => addressOf (.dp dst) s
  | .andDpImm d _ => addressOf (.dp d) s
  | .orAImm _ => []
  | .orAIndX => []
  | .orADp _ => []
  | .orADpPlusX _ => []
  | .orAAbs _ => []
  | .orAAbsPlusX _ => []
  | .orAAbsPlusY _ => []
  | .orAIndDpX _ => []
  | .orAIndDpPlusY _ => []
  | .orIndXIndY => addressOf .indX s
  | .orDpDp dst _ => addressOf (.dp dst) s
  | .orDpImm d _ => addressOf (.dp d) s
  | .eorAImm _ => []
  | .eorAIndX => []
  | .eorADp _ => []
  | .eorADpPlusX _ => []
  | .eorAAbs _ => []
  | .eorAAbsPlusX _ => []
  | .eorAAbsPlusY _ => []
  | .eorAIndDpX _ => []
  | .eorAIndDpPlusY _ => []
  | .eorIndXIndY => addressOf .indX s
  | .eorDpDp dst _ => addressOf (.dp dst) s
  | .eorDpImm d _ => addressOf (.dp d) s
  | .incA => []
  | .incDp d => addressOf (.dp d) s
  | .incDpPlusX d => addressOf (.dpPlusX d) s
  | .incAbs addr => addressOf (.abs addr) s
  | .incX => []
  | .incY => []
  | .decA => []
  | .decDp d => addressOf (.dp d) s
  | .decDpPlusX d => addressOf (.dpPlusX d) s
  | .decAbs addr => addressOf (.abs addr) s
  | .decX => []
  | .decY => []
  | .aslA => []
  | .aslDp d => addressOf (.dp d) s
  | .aslDpPlusX d => addressOf (.dpPlusX d) s
  | .aslAbs addr => addressOf (.abs addr) s
  | .lsrA => []
  | .lsrDp d => addressOf (.dp d) s
  | .lsrDpPlusX d => addressOf (.dpPlusX d) s
  | .lsrAbs addr => addressOf (.abs addr) s
  | .rolA => []
  | .rolDp d => addressOf (.dp d) s
  | .rolDpPlusX d => addressOf (.dpPlusX d) s
  | .rolAbs addr => addressOf (.abs addr) s
  | .rorA => []
  | .rorDp d => addressOf (.dp d) s
  | .rorDpPlusX d => addressOf (.dpPlusX d) s
  | .rorAbs addr => addressOf (.abs addr) s
  | .xcnA => []
  | .movwYaDp _ => []
  | .movwDpYa d => wordDPAddresses s d
  | .incwDp d => wordDPAddresses s d
  | .decwDp d => wordDPAddresses s d
  | .addwYaDp _ => []
  | .subwYaDp _ => []
  | .cmpwYaDp _ => []
  | .mulYa => []
  | .divYaX => []
  | .daaA => []
  | .dasA => []
  | .bra _ => []
  | .beq _ => []
  | .bne _ => []
  | .bcs _ => []
  | .bcc _ => []
  | .bvs _ => []
  | .bvc _ => []
  | .bmi _ => []
  | .bpl _ => []
  | .bbs _ _ _ => []
  | .bbc _ _ _ => []
  | .cbneDp _ _ => []
  | .cbneDpPlusX _ _ => []
  | .dbnzDp d _ => addressOf (.dp d) s
  | .dbnzY _ => []
  | .jmpAbs _ => []
  | .jmpIndAbsPlusX _ => []
  | .callAbs _ => pushAddresses 2 s.sp
  | .pcall _ => pushAddresses 2 s.sp
  | .tcall _ => pushAddresses 2 s.sp
  | .brk => pushAddresses 3 s.sp
  | .ret => []
  | .ret1 => []
  | .pushA => pushAddresses 1 s.sp
  | .pushX => pushAddresses 1 s.sp
  | .pushY => pushAddresses 1 s.sp
  | .pushPsw => pushAddresses 1 s.sp
  | .popA => []
  | .popX => []
  | .popY => []
  | .popPsw => []
  | .set1 _ d => addressOf (.dp d) s
  | .clr1 _ d => addressOf (.dp d) s
  | .tset1Abs addr => addressOf (.abs addr) s
  | .tclr1Abs addr => addressOf (.abs addr) s
  | .and1CMem _ _ => []
  | .and1CNotMem _ _ => []
  | .or1CMem _ _ => []
  | .or1CNotMem _ _ => []
  | .eor1CMem _ _ => []
  | .not1Mem addr _ => addressOf (.abs addr) s
  | .mov1CMem _ _ => []
  | .mov1MemC addr _ => addressOf (.abs addr) s
  | .clrc => []
  | .setc => []
  | .notc => []
  | .clrv => []
  | .clrp => []
  | .setp => []
  | .ei => []
  | .di => []
  | .nop => []
  | .sleep => []
  | .stop => []

/-! ## Safe runs -/

/-- The invariant of a run: memory is in its canonical form. -/
def Inv (s : State) : Prop := s.mem.wf = true

/-- The ROM of `t` is that of `s` (20_memory.md R61). -/
def SameRom (s t : State) : Prop := ∀ k : Nat, romBase.toNat ≤ k → Memory.read t.mem k = Memory.read s.mem k

/-- A step has a meaning: it answers a next state. -/
def Steps (s : State) : Prop := ∃ t, step s = .next t

end Sys2Proof.Machine
end

