-- ==== Sys2Proof/WellFormed.lean ====
section
/-! DEFINITION. Which terms of `Instr` are instructions: those whose operands fit the bits the encoding gives them
(30_encoding.md R110 to R113). -/

namespace Sys2Proof

/-- A bit number has three bits (30_encoding.md R110, R111, R112). -/
def bitOk (bit : Nat) : Bool := decide (bit < 8)

/-- A vector call number has four bits (30_encoding.md R113). -/
def callNumberOk (n : Nat) : Bool := decide (n < 16)

/-- The address of a mem.bit operand has thirteen bits, 0000 to 1FFF (20_memory.md R82, 30_encoding.md R112). -/
def memBitAddrOk (addr : Addr) : Bool := decide (addr.toNat < 8192)

/-- The operands of an instruction fit its encoding. Byte and absolute operands always do (30_encoding.md R119). -/
def Instr.wf : Instr → Bool
  | .movAImm _ => true
  | .movAIndX => true
  | .movAIndXInc => true
  | .movADp _ => true
  | .movADpPlusX _ => true
  | .movAAbs _ => true
  | .movAAbsPlusX _ => true
  | .movAAbsPlusY _ => true
  | .movAIndDpX _ => true
  | .movAIndDpPlusY _ => true
  | .movXImm _ => true
  | .movXDp _ => true
  | .movXDpPlusY _ => true
  | .movXAbs _ => true
  | .movYImm _ => true
  | .movYDp _ => true
  | .movYDpPlusX _ => true
  | .movYAbs _ => true
  | .movIndXA => true
  | .movIndXIncA => true
  | .movDpA _ => true
  | .movDpPlusXA _ => true
  | .movAbsA _ => true
  | .movAbsPlusXA _ => true
  | .movAbsPlusYA _ => true
  | .movIndDpXA _ => true
  | .movIndDpPlusYA _ => true
  | .movDpX _ => true
  | .movDpPlusYX _ => true
  | .movAbsX _ => true
  | .movDpY _ => true
  | .movDpPlusXY _ => true
  | .movAbsY _ => true
  | .movAX => true
  | .movAY => true
  | .movXA => true
  | .movYA => true
  | .movXSp => true
  | .movSpX => true
  | .movDpDp _ _ => true
  | .movDpImm _ _ => true
  | .adcAImm _ => true
  | .adcAIndX => true
  | .adcADp _ => true
  | .adcADpPlusX _ => true
  | .adcAAbs _ => true
  | .adcAAbsPlusX _ => true
  | .adcAAbsPlusY _ => true
  | .adcAIndDpX _ => true
  | .adcAIndDpPlusY _ => true
  | .adcIndXIndY => true
  | .adcDpDp _ _ => true
  | .adcDpImm _ _ => true
  | .sbcAImm _ => true
  | .sbcAIndX => true
  | .sbcADp _ => true
  | .sbcADpPlusX _ => true
  | .sbcAAbs _ => true
  | .sbcAAbsPlusX _ => true
  | .sbcAAbsPlusY _ => true
  | .sbcAIndDpX _ => true
  | .sbcAIndDpPlusY _ => true
  | .sbcIndXIndY => true
  | .sbcDpDp _ _ => true
  | .sbcDpImm _ _ => true
  | .cmpAImm _ => true
  | .cmpAIndX => true
  | .cmpADp _ => true
  | .cmpADpPlusX _ => true
  | .cmpAAbs _ => true
  | .cmpAAbsPlusX _ => true
  | .cmpAAbsPlusY _ => true
  | .cmpAIndDpX _ => true
  | .cmpAIndDpPlusY _ => true
  | .cmpIndXIndY => true
  | .cmpDpDp _ _ => true
  | .cmpDpImm _ _ => true
  | .cmpXImm _ => true
  | .cmpXDp _ => true
  | .cmpXAbs _ => true
  | .cmpYImm _ => true
  | .cmpYDp _ => true
  | .cmpYAbs _ => true
  | .andAImm _ => true
  | .andAIndX => true
  | .andADp _ => true
  | .andADpPlusX _ => true
  | .andAAbs _ => true
  | .andAAbsPlusX _ => true
  | .andAAbsPlusY _ => true
  | .andAIndDpX _ => true
  | .andAIndDpPlusY _ => true
  | .andIndXIndY => true
  | .andDpDp _ _ => true
  | .andDpImm _ _ => true
  | .orAImm _ => true
  | .orAIndX => true
  | .orADp _ => true
  | .orADpPlusX _ => true
  | .orAAbs _ => true
  | .orAAbsPlusX _ => true
  | .orAAbsPlusY _ => true
  | .orAIndDpX _ => true
  | .orAIndDpPlusY _ => true
  | .orIndXIndY => true
  | .orDpDp _ _ => true
  | .orDpImm _ _ => true
  | .eorAImm _ => true
  | .eorAIndX => true
  | .eorADp _ => true
  | .eorADpPlusX _ => true
  | .eorAAbs _ => true
  | .eorAAbsPlusX _ => true
  | .eorAAbsPlusY _ => true
  | .eorAIndDpX _ => true
  | .eorAIndDpPlusY _ => true
  | .eorIndXIndY => true
  | .eorDpDp _ _ => true
  | .eorDpImm _ _ => true
  | .incA => true
  | .incDp _ => true
  | .incDpPlusX _ => true
  | .incAbs _ => true
  | .incX => true
  | .incY => true
  | .decA => true
  | .decDp _ => true
  | .decDpPlusX _ => true
  | .decAbs _ => true
  | .decX => true
  | .decY => true
  | .aslA => true
  | .aslDp _ => true
  | .aslDpPlusX _ => true
  | .aslAbs _ => true
  | .lsrA => true
  | .lsrDp _ => true
  | .lsrDpPlusX _ => true
  | .lsrAbs _ => true
  | .rolA => true
  | .rolDp _ => true
  | .rolDpPlusX _ => true
  | .rolAbs _ => true
  | .rorA => true
  | .rorDp _ => true
  | .rorDpPlusX _ => true
  | .rorAbs _ => true
  | .xcnA => true
  | .movwYaDp _ => true
  | .movwDpYa _ => true
  | .incwDp _ => true
  | .decwDp _ => true
  | .addwYaDp _ => true
  | .subwYaDp _ => true
  | .cmpwYaDp _ => true
  | .mulYa => true
  | .divYaX => true
  | .daaA => true
  | .dasA => true
  | .bra _ => true
  | .beq _ => true
  | .bne _ => true
  | .bcs _ => true
  | .bcc _ => true
  | .bvs _ => true
  | .bvc _ => true
  | .bmi _ => true
  | .bpl _ => true
  | .bbs bit _ _ => bitOk bit
  | .bbc bit _ _ => bitOk bit
  | .cbneDp _ _ => true
  | .cbneDpPlusX _ _ => true
  | .dbnzDp _ _ => true
  | .dbnzY _ => true
  | .jmpAbs _ => true
  | .jmpIndAbsPlusX _ => true
  | .callAbs _ => true
  | .pcall _ => true
  | .tcall n => callNumberOk n
  | .brk => true
  | .ret => true
  | .ret1 => true
  | .pushA => true
  | .pushX => true
  | .pushY => true
  | .pushPsw => true
  | .popA => true
  | .popX => true
  | .popY => true
  | .popPsw => true
  | .set1 bit _ => bitOk bit
  | .clr1 bit _ => bitOk bit
  | .tset1Abs _ => true
  | .tclr1Abs _ => true
  | .and1CMem addr bit => memBitAddrOk addr && bitOk bit
  | .and1CNotMem addr bit => memBitAddrOk addr && bitOk bit
  | .or1CMem addr bit => memBitAddrOk addr && bitOk bit
  | .or1CNotMem addr bit => memBitAddrOk addr && bitOk bit
  | .eor1CMem addr bit => memBitAddrOk addr && bitOk bit
  | .not1Mem addr bit => memBitAddrOk addr && bitOk bit
  | .mov1CMem addr bit => memBitAddrOk addr && bitOk bit
  | .mov1MemC addr bit => memBitAddrOk addr && bitOk bit
  | .clrc => true
  | .setc => true
  | .notc => true
  | .clrv => true
  | .clrp => true
  | .setp => true
  | .ei => true
  | .di => true
  | .nop => true
  | .sleep => true
  | .stop => true

end Sys2Proof
end

