-- ==== Sys2Proof/Certificates/Slice0/Obligations.lean ====
section
/-! DEFINITION. The statements about the machine, for the provers. Each says for which forms and states it holds; where a
clause rests on a choice of the spec or of the model and not on the manual, its text names the log entry. -/

open Sys2Proof Sys2Proof.Machine

/-- For each of the 17 load forms of A, X and Y (MOV reg,operand without auto-increment), in every state in which the
operand can be read: exec answers a next state in which the register holds the operand, N is its bit 7, Z says that
it is 0, no other flag and no other field changes but the count of the answers of IO_REGION that reading the operand
makes, which is the model's choice (log 25). The page that dp gives for P = 1 is conflict C6 as the spec resolves it
(log 34). The wraps of the operand's address are decisions D10 to D12 (log 11). Which accesses are made, and in which
order, is decision D31 (log 29). Rests on R200, 40_mov8.md R201 R202 R204 R205 R206 R207 R208 R209 R210 R211,
40_mov8.md R212 R213 R214 R215 R216 R217 R218, R57. -/
def Obligations.LoadWritesRegisterAndNZ : Prop :=
  ∀ (d imm : Byte) (addr : Addr) (s s1 : State) (m : Byte),
    ∀ e ∈ ([(.movAImm imm, .a, .imm imm), (.movAIndX, .a, .mem .indX), (.movADp d, .a, .mem (.dp d)),
      (.movADpPlusX d, .a, .mem (.dpPlusX d)), (.movAAbs addr, .a, .mem (.abs addr)),
      (.movAAbsPlusX addr, .a, .mem (.absPlusX addr)), (.movAAbsPlusY addr, .a, .mem (.absPlusY addr)),
      (.movAIndDpX d, .a, .mem (.indDpX d)), (.movAIndDpPlusY d, .a, .mem (.indDpPlusY d)),
      (.movXImm imm, .x, .imm imm), (.movXDp d, .x, .mem (.dp d)), (.movXDpPlusY d, .x, .mem (.dpPlusY d)),
      (.movXAbs addr, .x, .mem (.abs addr)), (.movYImm imm, .y, .imm imm), (.movYDp d, .y, .mem (.dp d)),
      (.movYDpPlusX d, .y, .mem (.dpPlusX d)), (.movYAbs addr, .y, .mem (.abs addr))] : List (Instr × Reg × Operand)),
      readOperand e.2.2 s = .ok (m, s1) →
      ∃ t, exec e.1 s = .next t ∧
        t = { s.setReg e.2.1 m with psw := t.psw, ioReads := s1.ioReads } ∧
        NZOf8 m t ∧ FlagsKept [.n, .z] s t

/-- MOV A,(X)+, where the byte at DP(X) can be read, completes with that byte in A, N and Z from it and X one higher. MOV
(X)+,A, where DP(X) can be written, completes with A stored at DP(old X), X one higher, and no flag changed. Nothing
else changes. That the increment is after the access is the spec's decision D45 (log 35). The count of the answers of
IO_REGION and the record of the writes there are the model's choice (log 25). The page that dp gives for P = 1 is
conflict C6 as the spec resolves it (log 34). Which accesses are made, and in which order, is decision D31 (log 29).
Rests on R74, R200, R203, R220, R57. -/
def Obligations.AutoIncrementMovesUseOldX : Prop :=
  (∀ s : State, s.readable (s.dp s.x) = true →
    ∃ t, exec .movAIndXInc s = .next t ∧
      t = { s with a := s.byteAt (s.dp s.x), x := s.x + 1, psw := t.psw, ioReads := (s.afterRead (s.dp s.x)).ioReads } ∧
      NZOf8 (s.byteAt (s.dp s.x)) t ∧ FlagsKept [.n, .z] s t) ∧
  ∀ s : State, s.writable (s.dp s.x) = true →
    ∃ t, exec .movIndXIncA s = .next t ∧
      t = { s with x := s.x + 1, mem := t.mem, ioLog := t.ioLog } ∧ Stores [(s.dp s.x, s.a)] s t

/-- For each of the 14 store forms of A, X and Y: if the form has the effective address a in state s (computed by the
function ea that the meaning uses) and a can be written, exec answers a next state that differs from s only by the
byte stored at a (outside IO_REGION every other address reads as before; in IO_REGION the write is recorded) and by
the count of the answers of IO_REGION to the pointer reads; the record and the count are the model's choice (log 25).
That the forms MOV dp,Y, MOV dp+X,Y and MOV !abs,Y store Y is conflict C2 as the spec resolves it (log 34); the wraps
of the address are decisions D10 to D12 (log 11). The page that dp gives for P = 1 is conflict C6 as the spec
resolves it (log 34). Which accesses are made, and in which order, is decision D31 (log 29). Rests on 40_mov8.md R219
R221 R222 R223 R224 R225 R226 R227 R228 R229 R230 R231 R232 R233, 20_memory.md R69 R70 R71 R72 R75 R76 R77 R78 R79,
R57, 90_conflicts.md C2. -/
def Obligations.StoreWritesOneByte : Prop :=
  ∀ (d : Byte) (addr : Addr) (s s1 : State) (a : Addr),
    ∀ e ∈ ([(.movIndXA, .indX, .a), (.movDpA d, .dp d, .a), (.movDpPlusXA d, .dpPlusX d, .a),
      (.movAbsA addr, .abs addr, .a), (.movAbsPlusXA addr, .absPlusX addr, .a),
      (.movAbsPlusYA addr, .absPlusY addr, .a), (.movIndDpXA d, .indDpX d, .a),
      (.movIndDpPlusYA d, .indDpPlusY d, .a), (.movDpX d, .dp d, .x), (.movDpPlusYX d, .dpPlusY d, .x),
      (.movAbsX addr, .abs addr, .x), (.movDpY d, .dp d, .y), (.movDpPlusXY d, .dpPlusX d, .y),
      (.movAbsY addr, .abs addr, .y)] : List (Instr × Mode × Reg)),
      ea e.2.1 s = .ok (a, s1) → s.writable a = true →
      ∃ t, exec e.1 s = .next t ∧
        t = { s with mem := t.mem, ioLog := t.ioLog, ioReads := s1.ioReads } ∧ Stores [(a, s.reg e.2.2)] s t

/-- MOV A,X, MOV A,Y, MOV X,A, MOV Y,A and MOV X,SP complete in every state with the source in the destination, N and Z
from it, and nothing else changed. MOV SP,X completes with X in SP and nothing else changed, no flag either. Rests on
R200, R234, R235, R236, R237, R238, R239. -/
def Obligations.RegisterMovesCopyAndSetNZ : Prop :=
  (∀ s : State, ∀ e ∈ ([(.movAX, .a, s.x), (.movAY, .a, s.y), (.movXA, .x, s.a), (.movYA, .y, s.a),
      (.movXSp, .x, s.sp)] : List (Instr × Reg × Byte)),
    ∃ t, exec e.1 s = .next t ∧ t = { s.setReg e.2.1 e.2.2 with psw := t.psw } ∧
      NZOf8 e.2.2 t ∧ FlagsKept [.n, .z] s t) ∧
  ∀ s : State, exec .movSpX s = .next { s with sp := s.x }

/-- MOV dp(d),dp(s), where the source can be read and the destination written, completes with the source byte stored at
DP(dst). MOV dp,#inm, where DP(d) can be written, completes with the immediate stored there. Nothing else changes.
The destination is not read (log 29). The count of the answers of IO_REGION and the record of the writes there are
the model's choice (log 25). The page that dp gives for P = 1 is conflict C6 as the spec resolves it (log 34). Rests
on R240, R241, R68. -/
def Obligations.MemoryMovesWriteDestinationOnly : Prop :=
  (∀ (dst src : Byte) (s : State), s.readable (s.dp src) = true → s.writable (s.dp dst) = true →
    ∃ t, exec (.movDpDp dst src) s = .next t ∧
      t = { s with mem := t.mem, ioLog := t.ioLog, ioReads := (s.afterRead (s.dp src)).ioReads } ∧
      Stores [(s.dp dst, s.byteAt (s.dp src))] s t) ∧
  ∀ (d imm : Byte) (s : State), s.writable (s.dp d) = true →
    ∃ t, exec (.movDpImm d imm) s = .next t ∧
      t = { s with mem := t.mem, ioLog := t.ioLog } ∧ Stores [(s.dp d, imm)] s t

/-- For each of the nine forms ADC A,operand, in every state in which the operand can be read: exec answers a next state
with A + m + C modulo 256 in A and the flags N V H Z C of adc8, P B I kept, and nothing else changed but the count of
the answers of IO_REGION (log 25). V is the signed overflow by decision D16, H takes the carry in by D17 (log 13).
That ADC A,(dp+X) and ADC A,(dp)+Y add C, which their rows do not print, is conflict C11 as the spec resolves it
(D38, log 34). The page that dp gives for P = 1 is conflict C6 as the spec resolves it (log 34). The wraps of the
operand's address are decisions D10 to D12 (log 11). Which accesses are made, and in which order, is decision D31
(log 29). Rests on R250, R34, R32, 41_arith8.md R254 R255 R256 R257 R258 R259 R260 R261 R262. -/
def Obligations.AdcIntoAccumulator : Prop :=
  ∀ (d imm : Byte) (addr : Addr) (s s1 : State) (m : Byte),
    ∀ e ∈ ([(.adcAImm imm, .imm imm), (.adcAIndX, .mem .indX), (.adcADp d, .mem (.dp d)),
      (.adcADpPlusX d, .mem (.dpPlusX d)), (.adcAAbs addr, .mem (.abs addr)),
      (.adcAAbsPlusX addr, .mem (.absPlusX addr)), (.adcAAbsPlusY addr, .mem (.absPlusY addr)),
      (.adcAIndDpX d, .mem (.indDpX d)), (.adcAIndDpPlusY d, .mem (.indDpPlusY d))] : List (Instr × Operand)),
      readOperand e.2 s = .ok (m, s1) →
      ∃ t, exec e.1 s = .next t ∧ t = { s with a := t.a, psw := t.psw, ioReads := s1.ioReads } ∧ IsAdc8 s.a m s t t.a

/-- For each of the nine forms SBC A,operand, in every state in which the operand can be read: exec answers a next state
with A - m - (1 - C) modulo 256 in A and the flags N V H Z C of sbc8, P B I kept, and nothing else changed but the
count of the answers of IO_REGION (log 25). V is the signed overflow by decision D16, H takes the borrow by D17 (log
13). The page that dp gives for P = 1 is conflict C6 as the spec resolves it (log 34). The wraps of the operand's
address are decisions D10 to D12 (log 11). Which accesses are made, and in which order, is decision D31 (log 29).
Rests on R251, R34, R32, 41_arith8.md R266 R267 R268 R269 R270 R271 R272 R273 R274. -/
def Obligations.SbcIntoAccumulator : Prop :=
  ∀ (d imm : Byte) (addr : Addr) (s s1 : State) (m : Byte),
    ∀ e ∈ ([(.sbcAImm imm, .imm imm), (.sbcAIndX, .mem .indX), (.sbcADp d, .mem (.dp d)),
      (.sbcADpPlusX d, .mem (.dpPlusX d)), (.sbcAAbs addr, .mem (.abs addr)),
      (.sbcAAbsPlusX addr, .mem (.absPlusX addr)), (.sbcAAbsPlusY addr, .mem (.absPlusY addr)),
      (.sbcAIndDpX d, .mem (.indDpX d)), (.sbcAIndDpPlusY d, .mem (.indDpPlusY d))] : List (Instr × Operand)),
      readOperand e.2 s = .ok (m, s1) →
      ∃ t, exec e.1 s = .next t ∧ t = { s with a := t.a, psw := t.psw, ioReads := s1.ioReads } ∧ IsSbc8 s.a m s t t.a

/-- For each of the three memory forms of ADC, in every state in which the source can be read and the destination
written: exec answers a next state in which the destination holds adc8(destination, source) with the flags N V H Z C
of it; A and every other register, the flags P B I and every other address are as before. The source is read before
the destination (R253). V, H by decisions D16, D17 (log 13); the operand roles by D2 (logs 8, 35). The count of the
answers of IO_REGION and the record of the writes there are the model's choice (log 25). The page that dp gives for P
= 1 is conflict C6 as the spec resolves it (log 34). Which accesses are made, and in which order, is decision D31
(log 29). Rests on R250, R253, R263, R264, R265. -/
def Obligations.AdcIntoMemory : Prop :=
  ∀ (dst src imm : Byte) (s s1 : State) (m : Byte),
    ∀ e ∈ ([(.adcIndXIndY, s.dp s.x, .mem .indY), (.adcDpDp dst src, s.dp dst, .mem (.dp src)),
      (.adcDpImm dst imm, s.dp dst, .imm imm)] : List (Instr × Addr × Operand)),
      readOperand e.2.2 s = .ok (m, s1) → s.writable e.2.1 = true →
      ∃ t r, exec e.1 s = .next t ∧
        t = { s with psw := t.psw, mem := t.mem, ioLog := t.ioLog, ioReads := (s1.afterRead e.2.1).ioReads } ∧
        IsAdc8 (s1.byteAt e.2.1) m s t r ∧ Stores [(e.2.1, r)] s t

/-- For each of the three memory forms of SBC, in every state in which the source can be read and the destination
written: exec answers a next state in which the destination holds sbc8(destination, source) with the flags N V H Z C
of it; A and every other register, the flags P B I and every other address are as before. The source is read before
the destination (R253). V, H by decisions D16, D17 (log 13); the operand roles by D2 (logs 8, 35). The count of the
answers of IO_REGION and the record of the writes there are the model's choice (log 25). The page that dp gives for P
= 1 is conflict C6 as the spec resolves it (log 34). Which accesses are made, and in which order, is decision D31
(log 29). Rests on R251, R253, R275, R276, R277. -/
def Obligations.SbcIntoMemory : Prop :=
  ∀ (dst src imm : Byte) (s s1 : State) (m : Byte),
    ∀ e ∈ ([(.sbcIndXIndY, s.dp s.x, .mem .indY), (.sbcDpDp dst src, s.dp dst, .mem (.dp src)),
      (.sbcDpImm dst imm, s.dp dst, .imm imm)] : List (Instr × Addr × Operand)),
      readOperand e.2.2 s = .ok (m, s1) → s.writable e.2.1 = true →
      ∃ t r, exec e.1 s = .next t ∧
        t = { s with psw := t.psw, mem := t.mem, ioLog := t.ioLog, ioReads := (s1.afterRead e.2.1).ioReads } ∧
        IsSbc8 (s1.byteAt e.2.1) m s t r ∧ Stores [(e.2.1, r)] s t

/-- For all bytes a, m and every state, the subtraction with borrow of SBC gives the same result and the same flags as
the addition with carry of ADC with the complement of m. R251 derives it; it rests on the conventions of log 13.
Rests on R251, R250. -/
def Obligations.SubtractionIsAdditionOfComplement : Prop :=
  ∀ (a m : Byte) (s : State), sbc8 a m s = adc8 a (~~~m) s

/-- For each of the 15 forms CMP A/X/Y,operand, in every state in which the operand can be read: exec answers a next
state with C = 1 iff register >= operand unsigned, N bit 7 of the difference modulo 256, Z = 1 iff they are equal; V,
H and the other flags, every register and memory are as before. The count of the answers of IO_REGION rises by the
reads of the operand, which is the model's choice (log 25). The page that dp gives for P = 1 is conflict C6 as the
spec resolves it (log 34). The wraps of the operand's address are decisions D10 to D12 (log 11). Which accesses are
made, and in which order, is decision D31 (log 29). Rests on R252, 41_arith8.md R278 R279 R280 R281 R282 R283 R284
R285 R286, 41_arith8.md R290 R291 R292 R293 R294 R295, R57. -/
def Obligations.CompareRegisterWritesNZC : Prop :=
  ∀ (d imm : Byte) (addr : Addr) (s s1 : State) (m : Byte),
    ∀ e ∈ ([(.cmpAImm imm, .a, .imm imm), (.cmpAIndX, .a, .mem .indX), (.cmpADp d, .a, .mem (.dp d)),
      (.cmpADpPlusX d, .a, .mem (.dpPlusX d)), (.cmpAAbs addr, .a, .mem (.abs addr)),
      (.cmpAAbsPlusX addr, .a, .mem (.absPlusX addr)), (.cmpAAbsPlusY addr, .a, .mem (.absPlusY addr)),
      (.cmpAIndDpX d, .a, .mem (.indDpX d)), (.cmpAIndDpPlusY d, .a, .mem (.indDpPlusY d)),
      (.cmpXImm imm, .x, .imm imm), (.cmpXDp d, .x, .mem (.dp d)), (.cmpXAbs addr, .x, .mem (.abs addr)),
      (.cmpYImm imm, .y, .imm imm), (.cmpYDp d, .y, .mem (.dp d)), (.cmpYAbs addr, .y, .mem (.abs addr))] : List (Instr × Reg × Operand)),
      readOperand e.2.2 s = .ok (m, s1) →
      ∃ t, exec e.1 s = .next t ∧ t = { s with psw := t.psw, ioReads := s1.ioReads } ∧ IsCmp8 (s.reg e.2.1) m s t

/-- For each of the three memory forms of CMP, in every state in which both operands can be read: exec answers a next
state with the flags N Z C of cmp8(destination, source); every register, every other flag and all of memory are as
before. The source is read first (R253, D31). The count of the answers of IO_REGION and the record of the writes
there are the model's choice (log 25). Which offset and which register name the destination are decisions D2 and D47
(logs 8, 35). The page that dp gives for P = 1 is conflict C6 as the spec resolves it (log 34). Which accesses are
made, and in which order, is decision D31 (log 29). Rests on R252, R253, R287, R288, R289. -/
def Obligations.CompareMemoryWritesNZC : Prop :=
  ∀ (dst src imm : Byte) (s s1 : State) (m : Byte),
    ∀ e ∈ ([(.cmpIndXIndY, s.dp s.x, .mem .indY), (.cmpDpDp dst src, s.dp dst, .mem (.dp src)),
      (.cmpDpImm dst imm, s.dp dst, .imm imm)] : List (Instr × Addr × Operand)),
      readOperand e.2.2 s = .ok (m, s1) → s.readable e.2.1 = true →
      ∃ t, exec e.1 s = .next t ∧ t = { s with psw := t.psw, ioReads := (s1.afterRead e.2.1).ioReads } ∧
        IsCmp8 (s1.byteAt e.2.1) m s t

/-- For each of the 27 forms AND/OR/EOR A,operand, in every state in which the operand can be read: exec answers a next
state with the bitwise result in A, N and Z from it, no other flag and no other field changed but the count of the
answers of IO_REGION, which is the model's choice (log 25). The page that dp gives for P = 1 is conflict C6 as the
spec resolves it (log 34). The wraps of the operand's address are decisions D10 to D12 (log 11). Which accesses are
made, and in which order, is decision D31 (log 29). Rests on R300, 42_logic8.md R301 R302 R303 R304 R305 R306 R307
R308 R309, 42_logic8.md R313 R314 R315 R316 R317 R318 R319 R320 R321, 42_logic8.md R325 R326 R327 R328 R329 R330 R331
R332 R333, R57. -/
def Obligations.LogicIntoAccumulator : Prop :=
  ∀ (d imm : Byte) (addr : Addr) (s s1 : State) (m : Byte),
    ∀ e ∈ ([(.andAImm imm, .imm imm, (fun a m => a &&& m)), (.andAIndX, .mem .indX, (fun a m => a &&& m)),
      (.andADp d, .mem (.dp d), (fun a m => a &&& m)),
      (.andADpPlusX d, .mem (.dpPlusX d), (fun a m => a &&& m)),
      (.andAAbs addr, .mem (.abs addr), (fun a m => a &&& m)),
      (.andAAbsPlusX addr, .mem (.absPlusX addr), (fun a m => a &&& m)),
      (.andAAbsPlusY addr, .mem (.absPlusY addr), (fun a m => a &&& m)),
      (.andAIndDpX d, .mem (.indDpX d), (fun a m => a &&& m)),
      (.andAIndDpPlusY d, .mem (.indDpPlusY d), (fun a m => a &&& m)),
      (.orAImm imm, .imm imm, (fun a m => a ||| m)), (.orAIndX, .mem .indX, (fun a m => a ||| m)),
      (.orADp d, .mem (.dp d), (fun a m => a ||| m)),
      (.orADpPlusX d, .mem (.dpPlusX d), (fun a m => a ||| m)),
      (.orAAbs addr, .mem (.abs addr), (fun a m => a ||| m)),
      (.orAAbsPlusX addr, .mem (.absPlusX addr), (fun a m => a ||| m)),
      (.orAAbsPlusY addr, .mem (.absPlusY addr), (fun a m => a ||| m)),
      (.orAIndDpX d, .mem (.indDpX d), (fun a m => a ||| m)),
      (.orAIndDpPlusY d, .mem (.indDpPlusY d), (fun a m => a ||| m)),
      (.eorAImm imm, .imm imm, (fun a m => a ^^^ m)), (.eorAIndX, .mem .indX, (fun a m => a ^^^ m)),
      (.eorADp d, .mem (.dp d), (fun a m => a ^^^ m)),
      (.eorADpPlusX d, .mem (.dpPlusX d), (fun a m => a ^^^ m)),
      (.eorAAbs addr, .mem (.abs addr), (fun a m => a ^^^ m)),
      (.eorAAbsPlusX addr, .mem (.absPlusX addr), (fun a m => a ^^^ m)),
      (.eorAAbsPlusY addr, .mem (.absPlusY addr), (fun a m => a ^^^ m)),
      (.eorAIndDpX d, .mem (.indDpX d), (fun a m => a ^^^ m)),
      (.eorAIndDpPlusY d, .mem (.indDpPlusY d), (fun a m => a ^^^ m))] : List (Instr × Operand × (Byte → Byte → Byte))),
      readOperand e.2.1 s = .ok (m, s1) →
      ∃ t, exec e.1 s = .next t ∧ t = { s with a := e.2.2 s.a m, psw := t.psw, ioReads := s1.ioReads } ∧ IsNZ8 (e.2.2 s.a m) s t

/-- For each of the nine memory forms of AND, OR and EOR, in every state in which the source can be read and the
destination written: exec answers a next state in which the destination holds the bitwise result, with N and Z of it;
every register, every other flag and every other address are as before. Operand roles by D2 (logs 8, 35). The count
of the answers of IO_REGION and the record of the writes there are the model's choice (log 25). The page that dp
gives for P = 1 is conflict C6 as the spec resolves it (log 34). Which accesses are made, and in which order, is
decision D31 (log 29). Rests on R300, R253, 42_logic8.md R310 R311 R312 R322 R323 R324 R334 R335 R336. -/
def Obligations.LogicIntoMemory : Prop :=
  ∀ (dst src imm : Byte) (s s1 : State) (m : Byte),
    ∀ e ∈ ([(.andIndXIndY, s.dp s.x, .mem .indY, fun a m => a &&& m),
      (.andDpDp dst src, s.dp dst, .mem (.dp src), fun a m => a &&& m),
      (.andDpImm dst imm, s.dp dst, .imm imm, fun a m => a &&& m),
      (.orIndXIndY, s.dp s.x, .mem .indY, fun a m => a ||| m),
      (.orDpDp dst src, s.dp dst, .mem (.dp src), fun a m => a ||| m),
      (.orDpImm dst imm, s.dp dst, .imm imm, fun a m => a ||| m),
      (.eorIndXIndY, s.dp s.x, .mem .indY, fun a m => a ^^^ m),
      (.eorDpDp dst src, s.dp dst, .mem (.dp src), fun a m => a ^^^ m),
      (.eorDpImm dst imm, s.dp dst, .imm imm, fun a m => a ^^^ m)] : List (Instr × Addr × Operand × (Byte → Byte → Byte))),
      readOperand e.2.2.1 s = .ok (m, s1) → s.writable e.2.1 = true →
      ∃ t, exec e.1 s = .next t ∧
        t = { s with psw := t.psw, mem := t.mem, ioLog := t.ioLog, ioReads := (s1.afterRead e.2.1).ioReads } ∧
        IsNZ8 (e.2.2.2 (s1.byteAt e.2.1) m) s t ∧ Stores [(e.2.1, e.2.2.2 (s1.byteAt e.2.1) m)] s t

/-- INC A/X/Y and DEC A/X/Y complete in every state with the register one higher or lower modulo 256, N and Z from the
result, and nothing else changed. Rests on R350. -/
def Obligations.IncrementDecrementRegisters : Prop :=
  ∀ s : State, ∀ e ∈ ([(.incA, .a, (s.a.toNat + 1) % 256), (.incX, .x, (s.x.toNat + 1) % 256),
      (.incY, .y, (s.y.toNat + 1) % 256), (.decA, .a, (s.a.toNat + 255) % 256), (.decX, .x, (s.x.toNat + 255) % 256),
      (.decY, .y, (s.y.toNat + 255) % 256)] : List (Instr × Reg × Nat)),
    ∃ t r, exec e.1 s = .next t ∧ r.toNat = e.2.2 ∧ t = { s.setReg e.2.1 r with psw := t.psw } ∧ IsNZ8 r s t

/-- For each of the six memory forms of INC and DEC, where the byte can be written: exec answers a next state in which
the byte is one higher or lower modulo 256, N and Z from it; every other address, flag and register is as before. The
count of the answers of IO_REGION and the record of the writes there are the model's choice (log 25). The wrap of
dp+X inside the page is decision D10 (log 11). The page that dp gives for P = 1 is conflict C6 as the spec resolves
it (log 34). Which accesses are made, and in which order, is decision D31 (log 29). Rests on R350, R356, R357, R358,
R362, R363, R364, R68, R70. -/
def Obligations.IncrementDecrementMemory : Prop :=
  ∀ (d : Byte) (addr : Addr) (s : State),
    ∀ e ∈ ([(.incDp d, s.dp d, 1), (.incDpPlusX d, s.dp (d + s.x), 1), (.incAbs addr, addr, 1),
      (.decDp d, s.dp d, 255), (.decDpPlusX d, s.dp (d + s.x), 255), (.decAbs addr, addr, 255)] :
        List (Instr × Addr × Nat)),
      s.writable e.2.1 = true →
      ∃ t r, exec e.1 s = .next t ∧ r.toNat = ((s.byteAt e.2.1).toNat + e.2.2) % 256 ∧
        t = { s with psw := t.psw, mem := t.mem, ioLog := t.ioLog, ioReads := (s.afterRead e.2.1).ioReads } ∧
        IsNZ8 r s t ∧ Stores [(e.2.1, r)] s t

/-- ASL A, LSR A, ROL A and ROR A complete in every state: A becomes 2v mod 256, v div 2, (2v + c) mod 256 or (v div 2) +
128c for the old A v and the old C c; C is bit 7 (ASL, ROL) or bit 0 (LSR, ROR) of the old A; N and Z follow the
result; nothing else changes. That LSR and ROR shift right, with bit 0 into C, is conflict C16 as the spec resolves
it (log 34). Rests on R351, R352, R353, R354, R367, R371, R375, R379. -/
def Obligations.ShiftAccumulator : Prop :=
  ∀ s : State, ∀ e ∈ ([(.aslA, fun v _ => 2 * v % 256, 7), (.lsrA, fun v _ => v / 2, 0),
      (.rolA, fun v c => (2 * v + c) % 256, 7), (.rorA, fun v c => v / 2 + 128 * c, 0)] : List (Instr × (Nat → Nat → Nat) × Nat)),
    ∃ t, exec e.1 s = .next t ∧ t = { s with a := t.a, psw := t.psw } ∧
      t.a.toNat = e.2.1 s.a.toNat (s.flag .c).toNat ∧ IsShift8 t.a (testBit8 s.a e.2.2) s t

/-- For each of the 12 memory forms of the shifts, where the byte can be written: exec answers a next state in which the
byte is shifted or rotated by one bit as by the accumulator form, C holds the bit shifted out, N and Z follow the
result; every other address, flag and register is as before. The count of the answers of IO_REGION and the record of
the writes there are the model's choice (log 25). The wrap of dp+X inside the page is decision D10 (log 11). That LSR
and ROR shift right, with bit 0 into C, is conflict C16 as the spec resolves it (log 34). The page that dp gives for
P = 1 is conflict C6 as the spec resolves it (log 34). Which accesses are made, and in which order, is decision D31
(log 29). Rests on R351, R352, R353, R354, 43_incdec_shift.md R368 R369 R370 R372 R373 R374 R376 R377 R378 R380 R381
R382, R68, R70. -/
def Obligations.ShiftMemory : Prop :=
  ∀ (d : Byte) (addr : Addr) (s : State),
    ∀ e ∈ ([(.aslDp d, s.dp d, fun v _ => 2 * v % 256, 7),
      (.aslDpPlusX d, s.dp (d + s.x), fun v _ => 2 * v % 256, 7),
      (.aslAbs addr, addr, fun v _ => 2 * v % 256, 7), (.lsrDp d, s.dp d, fun v _ => v / 2, 0),
      (.lsrDpPlusX d, s.dp (d + s.x), fun v _ => v / 2, 0), (.lsrAbs addr, addr, fun v _ => v / 2, 0),
      (.rolDp d, s.dp d, fun v c => (2 * v + c) % 256, 7),
      (.rolDpPlusX d, s.dp (d + s.x), fun v c => (2 * v + c) % 256, 7),
      (.rolAbs addr, addr, fun v c => (2 * v + c) % 256, 7),
      (.rorDp d, s.dp d, fun v c => v / 2 + 128 * c, 0),
      (.rorDpPlusX d, s.dp (d + s.x), fun v c => v / 2 + 128 * c, 0),
      (.rorAbs addr, addr, fun v c => v / 2 + 128 * c, 0)] : List (Instr × Addr × (Nat → Nat → Nat) × Nat)),
      s.writable e.2.1 = true →
      ∃ t r, exec e.1 s = .next t ∧
        t = { s with psw := t.psw, mem := t.mem, ioLog := t.ioLog, ioReads := (s.afterRead e.2.1).ioReads } ∧
        r.toNat = e.2.2.1 (s.byteAt e.2.1).toNat (s.flag .c).toNat ∧
        IsShift8 r (testBit8 (s.byteAt e.2.1) e.2.2.2) s t ∧ Stores [(e.2.1, r)] s t

/-- XCN A completes in every state with A = (A mod 16) * 16 + A div 16 of the old A, N and Z from it, no other flag and
no other field changed. That the two halves are bits 7 to 4 and 3 to 0 is conflict C3 as the spec resolves it (log
34). Rests on R383, R200. -/
def Obligations.XcnExchangesNibbles : Prop :=
  ∀ s : State, ∃ t, exec .xcnA s = .next t ∧ t = { s with a := t.a, psw := t.psw } ∧
    t.a.toNat = s.a.toNat % 16 * 16 + s.a.toNat / 16 ∧ IsNZ8 t.a s t

/-- MOVW YA,dp, where the direct-page word can be read, completes with its low byte in A, its high byte in Y, N its bit
15 and Z that it is 0; no other flag and no other field changes but the count of the answers of IO_REGION. MOVW
dp,YA, where both bytes can be written, completes with A stored at DP(d) and Y at DP(d+1 mod 256), nothing else
changed, and no read made (log 29). The high byte at offset d+1 modulo 256 is decision D11 (log 11); the count of the
answers of IO_REGION and the record of a write there are the model's choice (log 25). That MOVW transfers, where the
source prints a minus sign, is conflict C17 as the spec resolves it (log 34). The page that dp gives for P = 1 is
conflict C6 as the spec resolves it (log 34). Rests on R390, R393, R394, R80, R57. -/
def Obligations.MovwMovesWordAndSetsNZ : Prop :=
  (∀ (d : Byte) (s s1 : State) (w : Word), readWordDP d s = .ok (w, s1) →
    ∃ t, exec (.movwYaDp d) s = .next t ∧
      t = { s with a := loByte w, y := hiByte w, psw := t.psw, ioReads := s1.ioReads } ∧
      NZOf16 w t ∧ FlagsKept [.n, .z] s t) ∧
  ∀ (d : Byte) (s : State), s.writable (s.dp d) = true → s.writable (s.dp (d + 1)) = true →
    ∃ t, exec (.movwDpYa d) s = .next t ∧ t = { s with mem := t.mem, ioLog := t.ioLog } ∧
      Stores [(s.dp d, s.a), (s.dp (d + 1), s.y)] s t

/-- INCW dp and DECW dp, where both bytes can be written: exec answers a next state in which the word at DP(d), DP(d+1
mod 256) is one higher or lower modulo 65536, N and Z follow all 16 bits; every other address, flag and register, YA
too, is as before. The offset + 1 modulo 256 is decision D11 (log 11). The count of the answers of IO_REGION and the
record of the writes there are the model's choice (log 25). The page that dp gives for P = 1 is conflict C6 as the
spec resolves it (log 34). Which accesses are made, and in which order, is decision D31 (log 29). Rests on R395,
R396, R390, R80. -/
def Obligations.WordIncrementDecrement : Prop :=
  ∀ (d : Byte) (s s1 : State) (w : Word),
    ∀ e ∈ ([(.incwDp d, 1), (.decwDp d, 65535)] : List (Instr × Nat)),
      readWordDP d s = .ok (w, s1) → s.writable (s.dp d) = true → s.writable (s.dp (d + 1)) = true →
      ∃ t r, exec e.1 s = .next t ∧ r.toNat = (w.toNat + e.2) % 65536 ∧
        t = { s with psw := t.psw, mem := t.mem, ioLog := t.ioLog, ioReads := s1.ioReads } ∧
        NZOf16 r t ∧ FlagsKept [.n, .z] s t ∧ Stores [(s.dp d, loByte r), (s.dp (d + 1), hiByte r)] s t

/-- ADDW YA,dp, where the word can be read, completes with YA + w modulo 65536 in YA: C is the carry from bit 15, V the
signed overflow, N and Z of the 16 bits, H the carry out of the bit H16_BIT; P B I, the other registers and memory
are as before, and the old C does not matter. H and V are the spec's decisions D16, D17 (logs 13, 14). The count of
the answers of IO_REGION and the record of the writes there are the model's choice (log 25). The page that dp gives
for P = 1 is conflict C6 as the spec resolves it (log 34). The high byte at offset + 1 modulo 256 is decision D11
(log 11). Which accesses are made, and in which order, is decision D31 (log 29). Rests on R391, R397. -/
def Obligations.AddwAddsWithoutCarryIn : Prop :=
  ∀ (d : Byte) (s s1 : State) (w : Word), readWordDP d s = .ok (w, s1) →
    ∃ t r, exec (.addwYaDp d) s = .next t ∧ r.toNat = (256 * s.y.toNat + s.a.toNat + w.toNat) % 65536 ∧
      t = { s with a := loByte r, y := hiByte r, psw := t.psw, ioReads := s1.ioReads } ∧
      IsWordSum r (decide (65535 < 256 * s.y.toNat + s.a.toNat + w.toNat))
        (testBit8 s.y 7 == w.getLsbD 15 && r.getLsbD 15 != testBit8 s.y 7) s t ∧
      t.flag .h = decide (2 ^ (s.cfg.h16Bit.val + 1) ≤ (256 * s.y.toNat + s.a.toNat) % 2 ^ (s.cfg.h16Bit.val + 1) +
        w.toNat % 2 ^ (s.cfg.h16Bit.val + 1))

/-- SUBW YA,dp, where the word can be read, completes with YA - w modulo 65536 in YA: C = 1 iff YA >= w, V the signed
overflow, N and Z of the 16 bits, H = 1 iff no borrow enters the bit H16_BIT; P B I, the other registers and memory
are as before. H and V are the spec's decisions D16, D17 (logs 13, 14). The count of the answers of IO_REGION and the
record of the writes there are the model's choice (log 25). The page that dp gives for P = 1 is conflict C6 as the
spec resolves it (log 34). The high byte at offset + 1 modulo 256 is decision D11 (log 11). Which accesses are made,
and in which order, is decision D31 (log 29). Rests on R392, R398. -/
def Obligations.SubwSubtractsWithoutBorrowIn : Prop :=
  ∀ (d : Byte) (s s1 : State) (w : Word), readWordDP d s = .ok (w, s1) →
    ∃ t r, exec (.subwYaDp d) s = .next t ∧ r.toNat = (256 * s.y.toNat + s.a.toNat + 65536 - w.toNat) % 65536 ∧
      t = { s with a := loByte r, y := hiByte r, psw := t.psw, ioReads := s1.ioReads } ∧
      IsWordSum r (decide (w.toNat ≤ 256 * s.y.toNat + s.a.toNat))
        (testBit8 s.y 7 != w.getLsbD 15 && r.getLsbD 15 != testBit8 s.y 7) s t ∧
      t.flag .h = decide (w.toNat % 2 ^ (s.cfg.h16Bit.val + 1) ≤
        (256 * s.y.toNat + s.a.toNat) % 2 ^ (s.cfg.h16Bit.val + 1))

/-- CMPW YA,dp, where the word can be read, completes with N and Z of (YA - w) modulo 65536; C is kept where
CMPW_WRITES_C is false and is 1 iff YA >= w where it is true (log 16); every other flag, YA and memory are as before.
The count of the answers of IO_REGION and the record of the writes there are the model's choice (log 25). The page
that dp gives for P = 1 is conflict C6 as the spec resolves it (log 34). The high byte at offset + 1 modulo 256 is
decision D11 (log 11). Which accesses are made, and in which order, is decision D31 (log 29). Rests on R399, R390. -/
def Obligations.CmpwWritesFlagsOnly : Prop :=
  ∀ (d : Byte) (s s1 : State) (w : Word), readWordDP d s = .ok (w, s1) →
    ∃ t r, exec (.cmpwYaDp d) s = .next t ∧ r.toNat = (256 * s.y.toNat + s.a.toNat + 65536 - w.toNat) % 65536 ∧
      t = { s with psw := t.psw, ioReads := s1.ioReads } ∧ NZOf16 r t ∧ FlagsKept [.n, .z, .c] s t ∧
      t.flag .c = (if s.cfg.cmpwWritesC then decide (w.toNat ≤ 256 * s.y.toNat + s.a.toNat) else s.flag .c)

/-- MUL YA completes in every state with Y * A in YA; N and Z follow all 16 bits where MUL_FLAGS = YA and the new Y where
MUL_FLAGS = Y (decision D18, log 15); V P B H I C, X, SP, memory are as before. Rests on R410. -/
def Obligations.MulGivesProduct : Prop :=
  ∀ s : State, ∃ t, exec .mulYa s = .next t ∧ t = { s with a := t.a, y := t.y, psw := t.psw } ∧
    256 * t.y.toNat + t.a.toNat = s.y.toNat * s.a.toNat ∧
    t.flag .n = testBit8 t.y 7 ∧
    t.flag .z = (if s.cfg.mulFlags = .ya then decide (t.y = 0 ∧ t.a = 0) else decide (t.y = 0)) ∧
    FlagsKept [.n, .z] s t

/-- DIV YA,X completes in every state with Y < X: A is YA div X, Y is YA mod X, V = 0, N and Z follow the quotient, C P B
I and everything else are as before. H is the free value div_h (log 21), whatever it is. That the remainder goes to Y
is conflict C12 as the spec resolves it (log 34). That V says whether the quotient fits, and that N and Z look at it,
is decision D19 (log 20). Rests on R411, R412. -/
def Obligations.DivGivesQuotientAndRemainder : Prop :=
  ∀ s : State, s.y.toNat < s.x.toNat → ∃ t, exec .divYaX s = .next t ∧
    t = { s with a := t.a, y := t.y, psw := t.psw } ∧
    t.a.toNat = (256 * s.y.toNat + s.a.toNat) / s.x.toNat ∧ t.y.toNat = (256 * s.y.toNat + s.a.toNat) % s.x.toNat ∧
    t.flag .v = false ∧ t.flag .h = Config.divH s.y s.a s.x ∧ NZOf8 t.a t ∧ FlagsKept [.n, .v, .h, .z] s t

/-- DIV YA,X completes in every state with Y >= X, X = 0 among them: V = 1, A and Y take the free value div_overflow of
the operands (log 20), N and Z follow the new A, H is the free value div_h (log 21); C P B I and everything else are
as before. That V = 1 there is decision D19 (log 20). Rests on R411, R412, R600. -/
def Obligations.DivOverflowSetsVAndCompletes : Prop :=
  ∀ s : State, s.x.toNat ≤ s.y.toNat → ∃ t, exec .divYaX s = .next t ∧
    t = { s with a := (Config.divOverflow s.y s.a s.x).1, y := (Config.divOverflow s.y s.a s.x).2, psw := t.psw } ∧
    t.flag .v = true ∧ t.flag .h = Config.divH s.y s.a s.x ∧ NZOf8 t.a t ∧ FlagsKept [.n, .v, .h, .z] s t

/-- DAA A and DAS A complete in every state. DAA adds 60 and sets C if C = 1 or A > 99, then adds 06 if H = 1 or the low
digit is above 9. DAS subtracts 60 and clears C if C = 0 or A > 99, then subtracts 06 if H = 0 or the low digit is
above 9. N and Z follow the result; everything else is as before. The algorithm is general knowledge, not in the
source (log 19). Rests on R413, R414, R415, R416. -/
def Obligations.DecimalAdjustAlgorithm : Prop :=
  (∀ s : State, ∃ t a1, exec .daaA s = .next t ∧ t = { s with a := t.a, psw := t.psw } ∧
    a1 = (if s.flag .c = true ∨ 0x99 < s.a.toNat then (s.a.toNat + 0x60) % 256 else s.a.toNat) ∧
    t.a.toNat = (if s.flag .h = true ∨ 9 < a1 % 16 then (a1 + 0x06) % 256 else a1) ∧
    t.flag .c = decide (s.flag .c = true ∨ 0x99 < s.a.toNat) ∧ NZOf8 t.a t ∧ FlagsKept [.n, .z, .c] s t) ∧
  ∀ s : State, ∃ t a1, exec .dasA s = .next t ∧ t = { s with a := t.a, psw := t.psw } ∧
    a1 = (if s.flag .c = false ∨ 0x99 < s.a.toNat then (s.a.toNat + 0xA0) % 256 else s.a.toNat) ∧
    t.a.toNat = (if s.flag .h = false ∨ 9 < a1 % 16 then (a1 + 0xFA) % 256 else a1) ∧
    t.flag .c = !decide (s.flag .c = false ∨ 0x99 < s.a.toNat) ∧ NZOf8 t.a t ∧ FlagsKept [.n, .z, .c] s t

/-- BRA, BEQ, BNE, BCS, BCC, BVS, BVC, BMI and BPL complete in every state. Where the condition holds pc becomes pc +
sext(rel) modulo 65536, pc being the address of the next instruction (decision D14, log 12); where not, nothing
changes. The sum modulo 65536 is decision D12 (log 11). Rests on R430, R431, R432, R433, R434, R435, R436, R437,
R438, R439. -/
def Obligations.BranchesWritePcOnly : Prop :=
  ∀ (rel : Byte) (s : State),
    ∀ e ∈ ([(.bra rel, true), (.beq rel, s.flag .z), (.bne rel, !s.flag .z), (.bcs rel, s.flag .c),
      (.bcc rel, !s.flag .c), (.bvs rel, s.flag .v), (.bvc rel, !s.flag .v), (.bmi rel, s.flag .n),
      (.bpl rel, !s.flag .n)] : List (Instr × Bool)),
      exec e.1 s = .next { s with pc := if e.2 then s.pc + BitVec.ofInt 16 rel.toInt else s.pc }

/-- BBS and BBC dp.bit,rel and CBNE dp,rel and dp+X,rel, in every state in which the byte can be read, complete: pc
becomes pc + sext(rel) modulo 65536 if the bit is 1 (BBS), is 0 (BBC), or the byte differs from A (CBNE); no flag
(CBNE by decision D46, log 36), no register and no memory changes. The count of the answers of IO_REGION and the
record of the writes there are the model's choice (log 25). The wrap of dp+X inside the page is decision D10 (log
11). pc is the address of the next instruction (decision D14, log 12) and the sum is modulo 65536 (decision D12, log
11). The page that dp gives for P = 1 is conflict C6 as the spec resolves it (log 34). Which accesses are made, and
in which order, is decision D31 (log 29). Rests on R440, R441, R442, R443, R430. -/
def Obligations.BranchesOnAByteWritePcOnly : Prop :=
  ∀ (bit : Nat) (d rel : Byte) (s s1 : State) (m : Byte), bit < 8 →
    ∀ e ∈ ([(.bbs bit d rel, .dp d, testBit8 m bit), (.bbc bit d rel, .dp d, !testBit8 m bit),
      (.cbneDp d rel, .dp d, decide (s.a ≠ m)), (.cbneDpPlusX d rel, .dpPlusX d, decide (s.a ≠ m))] :
        List (Instr × Mode × Bool)),
      readMode e.2.1 s = .ok (m, s1) →
      exec e.1 s = .next { s with
        pc := if e.2.2 then s.pc + BitVec.ofInt 16 rel.toInt else s.pc, ioReads := s1.ioReads }

/-- DBNZ dp,rel, where the byte can be written, completes with the byte one lower modulo 256 and pc + sext(rel) if the
result is not 0; DBNZ Y,rel does the same with Y in every state. No flag changes (log 36), and nothing else. The
count of the answers of IO_REGION and the record of the writes there are the model's choice (log 25). pc is the
address of the next instruction (decision D14, log 12) and the sum is modulo 65536 (decision D12, log 11); that no
flag changes is decision D46. The page that dp gives for P = 1 is conflict C6 as the spec resolves it (log 34). Which
accesses are made, and in which order, is decision D31 (log 29). Rests on R444, R445, R430. -/
def Obligations.DbnzDecrementsAndBranches : Prop :=
  (∀ (d rel : Byte) (s : State), s.writable (s.dp d) = true →
    ∃ t, exec (.dbnzDp d rel) s = .next t ∧
      t = { s with
        pc := if s.byteAt (s.dp d) = 1 then s.pc else s.pc + BitVec.ofInt 16 rel.toInt,
        mem := t.mem, ioLog := t.ioLog, ioReads := (s.afterRead (s.dp d)).ioReads } ∧
      Stores [(s.dp d, s.byteAt (s.dp d) - 1)] s t) ∧
  ∀ (rel : Byte) (s : State), exec (.dbnzY rel) s =
    .next { s with y := s.y - 1, pc := if s.y = 1 then s.pc else s.pc + BitVec.ofInt 16 rel.toInt }

/-- JMP !abs completes in every state with pc = abs and nothing else changed. JMP (!abs+X), where the word at (abs + X)
modulo 65536 can be read, completes with that word in pc (low byte first) and nothing else changed but the count of
the answers of IO_REGION. X is added unsigned (decision D12, log 11). The count of the answers of IO_REGION and the
record of the writes there are the model's choice (log 25). Which accesses are made, and in which order, is decision
D31 (log 29). Rests on R446, R447, R76, R81. -/
def Obligations.JumpsSetPc : Prop :=
  (∀ (addr : Addr) (s : State), exec (.jmpAbs addr) s = .next { s with pc := addr }) ∧
  ∀ (addr : Addr) (s s1 : State) (w : Word), readWord (BitVec.ofNat 16 (addr.toNat + s.x.toNat)) s = .ok (w, s1) →
    exec (.jmpIndAbsPlusX addr) s = .next { s with pc := w, ioReads := s1.ioReads }

/-- CALL !abs and PCALL upage, where the two stack bytes can be written, complete with PCH at 01:SP, PCL at 01:(SP-1), SP
lower by 2 modulo 256, and pc = abs or UPAGE_BASE OR upage (log 7); no flag, no other register and no other address
changes. pc already is the address of the next instruction (decision D15, log 12). The count of the answers of
IO_REGION and the record of the writes there are the model's choice (log 25). SP modulo 256 is decision D13 (log 11).
Which accesses are made, and in which order, is decision D31 (log 29). Rests on R470, R471, R85, R65, R28. -/
def Obligations.CallsPushReturnAddress : Prop :=
  ∀ (addr : Addr) (upage : Byte) (s : State),
    ∀ e ∈ ([(.callAbs addr, addr), (.pcall upage, s.cfg.upageBase ||| upage.setWidth 16)] : List (Instr × Addr)),
      s.writable (stackAddr s.sp) = true → s.writable (stackAddr (s.sp - 1)) = true →
      ∃ t, exec e.1 s = .next t ∧ t = { s with sp := s.sp - 2, pc := e.2, mem := t.mem, ioLog := t.ioLog } ∧
        Stores [(stackAddr s.sp, hiByte s.pc), (stackAddr (s.sp - 1), loByte s.pc)] s t

/-- TCALL n, where the two stack bytes can be written and the entry read, completes: u is the state after PCH and PCL are
pushed (SP lower by 2, nothing else changed), and the next state is u with pc = the word that u reads at
TCALL_TABLE_TOP - 2n modulo 65536, low byte first. No flag changes. The layout of the table is a parameter, general
knowledge in its default (log 5). The count of the answers of IO_REGION and the record of the writes there are the
model's choice (log 25). The pc pushed is the address of the next instruction (decision D15, log 12). SP modulo 256
is decision D13 and the second address of the entry modulo 65536 decision D12 (log 11). Which accesses are made, and
in which order, is decision D31 (log 29). Rests on R472, R85, R81, R28, R26. -/
def Obligations.TcallGoesThroughTable : Prop :=
  ∀ (n : Nat) (s : State) (v : Addr), n < 16 → v = s.cfg.tcallTop - BitVec.ofNat 16 (2 * n) →
    s.writable (stackAddr s.sp) = true → s.writable (stackAddr (s.sp - 1)) = true →
    s.readable v = true → s.readable (v + 1) = true →
    ∃ u, u = { s with sp := s.sp - 2, mem := u.mem, ioLog := u.ioLog } ∧
      Stores [(stackAddr s.sp, hiByte s.pc), (stackAddr (s.sp - 1), loByte s.pc)] s u ∧
      exec (.tcall n) s = .next { u with
        pc := mkWord ((u.afterRead v).byteAt (v + 1)) (u.byteAt v),
        ioReads := ((u.afterRead v).afterRead (v + 1)).ioReads }

/-- BRK, where the three stack bytes can be written and the vector read, completes: u is the state after PCH, PCL and the
old PSW are stored at 01:SP, 01:(SP-1), 01:(SP-2), SP lower by 3, B = 1, I = 0, the other flags and everything else
kept; the next state is u with pc = the word that u reads at BRK_VECTOR. The frame and the vector are general
knowledge (logs 6, 22). The count of the answers of IO_REGION and the record of the writes there are the model's
choice (log 25). The pc pushed is the address of the next instruction (decision D15, log 12). SP modulo 256 is
decision D13 and the second address of the vector modulo 65536 decision D12 (log 11). That B is bit 4 and I is bit 2
of the PSW is conflict C8 as the spec resolves it (D24, log 34). Which accesses are made, and in which order, is
decision D31 (log 29). Rests on R473, R603, R81, R28, R26. -/
def Obligations.BrkTakesTheException : Prop :=
  ∀ (s : State) (v : Addr), v = s.cfg.brkVector →
    s.writable (stackAddr s.sp) = true → s.writable (stackAddr (s.sp - 1)) = true →
    s.writable (stackAddr (s.sp - 2)) = true → s.readable v = true → s.readable (v + 1) = true →
    ∃ u, u = { s with sp := s.sp - 3, psw := u.psw, mem := u.mem, ioLog := u.ioLog } ∧
      u.flag .b = true ∧ u.flag .i = false ∧ FlagsKept [.b, .i] s u ∧
      Stores [(stackAddr s.sp, hiByte s.pc), (stackAddr (s.sp - 1), loByte s.pc), (stackAddr (s.sp - 2), s.psw)] s u ∧
      exec .brk s = .next { u with
        pc := mkWord ((u.afterRead v).byteAt (v + 1)) (u.byteAt v),
        ioReads := ((u.afterRead v).afterRead (v + 1)).ioReads }

/-- RET, where the two stack bytes can be read, completes with pc = byte at 01:(SP+2) : byte at 01:(SP+1) and SP higher
by 2; RET1, where the three can be read, completes with PSW = byte at 01:(SP+1), pc = byte at 01:(SP+3) : byte at
01:(SP+2) and SP higher by 3. Nothing else changes but the count of the answers of IO_REGION. The order of RET1 is
general knowledge (log 22). The count of the answers of IO_REGION and the record of the writes there are the model's
choice (log 25). That PCL comes before PCH is conflict C7 as the spec resolves it, and that RET1 loads all eight bits
is decision D37 (log 34). SP modulo 256 is decision D13 (log 11). Which accesses are made, and in which order, is
decision D31 (log 29). Rests on R474, R475, R604, R85, R28. -/
def Obligations.ReturnsPopPcAndPsw : Prop :=
  (∀ (s : State) (p q : Addr), p = stackAddr (s.sp + 1) → q = stackAddr (s.sp + 2) →
    s.readable p = true → s.readable q = true →
    exec .ret s = .next { s with
      sp := s.sp + 2, pc := mkWord ((s.afterRead p).byteAt q) (s.byteAt p),
      ioReads := ((s.afterRead p).afterRead q).ioReads }) ∧
  ∀ (s : State) (p q r : Addr), p = stackAddr (s.sp + 1) → q = stackAddr (s.sp + 2) → r = stackAddr (s.sp + 3) →
    s.readable p = true → s.readable q = true → s.readable r = true →
    exec .ret1 s = .next { s with
      sp := s.sp + 3, psw := s.byteAt p,
      pc := mkWord (((s.afterRead p).afterRead q).byteAt r) ((s.afterRead p).byteAt q),
      ioReads := (((s.afterRead p).afterRead q).afterRead r).ioReads }

/-- PUSH A, X, Y and PSW, where the stack byte can be written, complete with the register stored at 0100 + SP, SP one
lower modulo 256, and no flag, no other register and no other address changed. SP modulo 256 is decision D13 (log
11); the record of a write at an address of IO_REGION is the model's choice (log 25). That PUSH PSW stores all eight
bits is decision D37 (log 34). Which accesses are made, and in which order, is decision D31 (log 29). Rests on R83,
R28, R57, 47_call_stack.md R476 R477 R478 R479. -/
def Obligations.PushStoresAtStackAddress : Prop :=
  ∀ s : State, ∀ e ∈ ([(.pushA, s.a), (.pushX, s.x), (.pushY, s.y), (.pushPsw, s.psw)] : List (Instr × Byte)),
    ∀ p : Addr, p.toNat = 0x0100 + s.sp.toNat → s.writable p = true →
    ∃ t, exec e.1 s = .next t ∧ t = { s with sp := t.sp, mem := t.mem, ioLog := t.ioLog } ∧
      t.sp.toNat = (s.sp.toNat + 255) % 256 ∧ Stores [(p, e.2)] s t

/-- POP A, X and Y, where the stack byte can be read, complete with SP one higher modulo 256 and the byte at 0100 + new
SP in the register, no flag changed; POP PSW loads all eight flags with it. Nothing else changes but the count of the
answers of IO_REGION, which is the model's choice (log 25). SP modulo 256 is decision D13 (log 11). That POP PSW
loads all eight bits is decision D37 (log 34). Which accesses are made, and in which order, is decision D31 (log 29).
Rests on R84, R28, R57, 47_call_stack.md R480 R481 R482 R483. -/
def Obligations.PopReadsAfterIncrement : Prop :=
  (∀ s : State, ∀ e ∈ ([(.popA, .a), (.popX, .x), (.popY, .y)] : List (Instr × Reg)),
    ∀ p : Addr, p.toNat = 0x0100 + (s.sp.toNat + 1) % 256 → s.readable p = true →
    exec e.1 s = .next { s.setReg e.2 (s.byteAt p) with sp := s.sp + 1, ioReads := (s.afterRead p).ioReads }) ∧
  ∀ (s : State) (p : Addr), p.toNat = 0x0100 + (s.sp.toNat + 1) % 256 → s.readable p = true →
    exec .popPsw s = .next { s with psw := s.byteAt p, sp := s.sp + 1, ioReads := (s.afterRead p).ioReads }

/-- SET1 dp.bit and CLR1 dp.bit, where the byte can be written, complete with the bit 1 or 0 in the byte stored back and
its other bits as read; no flag, no register and no other address changes. The count of the answers of IO_REGION and
the record of the writes there are the model's choice (log 25). The page that dp gives for P = 1 is conflict C6 as
the spec resolves it (log 34). Which accesses are made, and in which order, is decision D31 (log 29). Rests on R500,
R501, R502, R68. -/
def Obligations.DirectPageBitCommands : Prop :=
  ∀ (bit : Nat) (d : Byte) (s : State), bit < 8 →
    ∀ e ∈ ([(.set1 bit d, true), (.clr1 bit d, false)] : List (Instr × Bool)),
      s.writable (s.dp d) = true →
      ∃ t r, exec e.1 s = .next t ∧
        (∀ b, b < 8 → testBit8 r b = if b = bit then e.2 else testBit8 (s.byteAt (s.dp d)) b) ∧
        t = { s with mem := t.mem, ioLog := t.ioLog, ioReads := (s.afterRead (s.dp d)).ioReads } ∧
        Stores [(s.dp d, r)] s t

/-- TSET1 !abs and TCLR1 !abs, where the byte can be written, complete with m OR A or m AND NOT A stored for the old byte
m; N and Z follow (A - m) modulo 256 where TSET_TEST = SUB and A AND m where it is AND (decision D21, log 18);
everything else is as before. The count of the answers of IO_REGION and the record of the writes there are the
model's choice (log 25). Which accesses are made, and in which order, is decision D31 (log 29). Rests on R503, R504. -/
def Obligations.TestAndSetTestAndClear : Prop :=
  ∀ (addr : Addr) (s : State) (m q : Byte), m = s.byteAt addr →
    q = (if s.cfg.tsetTest = .sub then s.a - m else s.a &&& m) →
    ∀ e ∈ ([(.tset1Abs addr, m ||| s.a), (.tclr1Abs addr, m &&& ~~~s.a)] : List (Instr × Byte)),
      s.writable addr = true →
      ∃ t, exec e.1 s = .next t ∧
        t = { s with psw := t.psw, mem := t.mem, ioLog := t.ioLog, ioReads := (s.afterRead addr).ioReads } ∧
        NZOf8 q t ∧ FlagsKept [.n, .z] s t ∧ Stores [(addr, e.2)] s t

/-- AND1, AND1 with complement, OR1, OR1 with complement, EOR1 and MOV1 C,mem.bit, where the byte can be read, complete
with C the combination of the old C and the bit; every other flag, every register and memory are as before. The count
of the answers of IO_REGION and the record of the writes there are the model's choice (log 25). Which accesses are
made, and in which order, is decision D31 (log 29). Rests on R505, R506, R507, R508, R509, R511. -/
def Obligations.CarryBitCommandsWriteC : Prop :=
  ∀ (addr : Addr) (bit : Nat) (s : State) (m : Bool), addr.toNat < 8192 → bit < 8 → m = testBit8 (s.byteAt addr) bit →
    ∀ e ∈ ([(.and1CMem addr bit, s.flag .c && m), (.and1CNotMem addr bit, s.flag .c && !m),
      (.or1CMem addr bit, s.flag .c || m), (.or1CNotMem addr bit, s.flag .c || !m),
      (.eor1CMem addr bit, s.flag .c != m), (.mov1CMem addr bit, m)] : List (Instr × Bool)),
      s.readable addr = true →
      ∃ t, exec e.1 s = .next t ∧ t = { s with psw := t.psw, ioReads := (s.afterRead addr).ioReads } ∧
        t.flag .c = e.2 ∧ FlagsKept [.c] s t

/-- NOT1 mem.bit and MOV1 mem.bit,C, where the byte can be written, complete with the bit complemented or equal to C in
the byte stored back, its other bits as read; no flag, no register and no other address changes. The count of the
answers of IO_REGION and the record of the writes there are the model's choice (log 25). Which accesses are made, and
in which order, is decision D31 (log 29). Rests on R510, R512, R500. -/
def Obligations.MemoryBitCommandsWriteOneBit : Prop :=
  ∀ (addr : Addr) (bit : Nat) (s : State) (m : Byte), addr.toNat < 8192 → bit < 8 → m = s.byteAt addr →
    ∀ e ∈ ([(.not1Mem addr bit, !testBit8 m bit), (.mov1MemC addr bit, s.flag .c)] : List (Instr × Bool)),
      s.writable addr = true →
      ∃ t r, exec e.1 s = .next t ∧ (∀ b, b < 8 → testBit8 r b = if b = bit then e.2 else testBit8 m b) ∧
        t = { s with mem := t.mem, ioLog := t.ioLog, ioReads := (s.afterRead addr).ioReads } ∧
        Stores [(addr, r)] s t

/-- Each of the eight flag commands completes in every state: CLRC, SETC, NOTC write C; CLRV clears V and H; CLRP clears
P; SETP sets P, and clears I where SETP_CLEARS_I (decision D23, log 17); EI and DI write I; every other flag and
every other field is as before. That CLRV clears V too is conflict C5, that SETP is the command that sets P is
conflict C4, and that I is bit 2 of the PSW is conflict C8, each as the spec resolves it (log 34). Rests on R530,
R531, R532, R533, R534, R535, R536, R537. -/
def Obligations.FlagCommandsWriteTheirFlags : Prop :=
  ∀ s : State, ∀ e ∈ ([(.clrc, [(.c, false)]), (.setc, [(.c, true)]), (.notc, [(.c, !s.flag .c)]),
      (.clrv, [(.v, false), (.h, false)]), (.clrp, [(.p, false)]),
      (.setp, if s.cfg.setpClearsI then [(.p, true), (.i, false)] else [(.p, true)]),
      (.ei, [(.i, true)]), (.di, [(.i, false)])] : List (Instr × List (Flag × Bool))),
    ∃ t, exec e.1 s = .next t ∧ t = { s with psw := t.psw } ∧ (∀ w ∈ e.2, t.flag w.1 = w.2) ∧
      FlagsKept (e.2.map Prod.fst) s t

/-- If the run state is Running, the bytes of an instruction of length n at pc, pc+1, ... can be read, and they decode to
i, then step is exec of i in the state after those reads with pc advanced by n modulo 65536. Where none of the
addresses is in IO_REGION, the bytes are those of memory and the reads change nothing. That pc is past the
instruction before its meaning runs is decisions D14 and D15 (log 12), its wrap modulo 65536 is decision D12 (log
11), and that the fetch reads memory byte by byte as data is decision D32 (log 30). That a read of IO_REGION consumes
an answer is the model's choice (log 25). Rests on R8, R26, R91, R101. -/
def Obligations.StepRunsDecodedInstruction : Prop :=
  (∀ (s : State) (i : Instr), s.run = .running →
    (∀ k, k < i.length → s.readable (s.pc + BitVec.ofNat 16 k) = true) →
    decode (readRun i.length s.pc s).1 = .ok (i, []) →
    step s = exec i { (readRun i.length s.pc s).2 with pc := s.pc + BitVec.ofNat 16 i.length }) ∧
  ∀ (s : State) (i : Instr) (rest : List Byte), s.run = .running →
    (∀ k, k < i.length → s.readable (s.pc + BitVec.ofNat 16 k) = true ∧ s.isIo (s.pc + BitVec.ofNat 16 k) = false) →
    decode [Memory.read s.mem s.pc.toNat, Memory.read s.mem (s.pc + 1).toNat, Memory.read s.mem (s.pc + 2).toNat] =
      .ok (i, rest) →
    step s = exec i { s with pc := s.pc + BitVec.ofNat 16 i.length }

/-- The listed byte sequences, each written bit by bit from the encoding rule of its format, decode to the listed
instructions with no byte left. Operand orders by D1 to D4 (logs 8, 9), bit numbers by D5 (log 10). That 0C is ASL
!abs is conflict C1 as the spec resolves it (log 34). Rests on 30_encoding.md R102 R103 R104 R105 R106 R107 R109 R110
R111 R112 R113 R118. -/
def Obligations.KnownWordsDecode : Prop :=
  ∀ e ∈ ([([0xE8, 0x80], .movAImm 0x80), ([0xE4, 0x10], .movADp 0x10), ([0xFA, 0x20, 0x10], .movDpDp 0x10 0x20),
      ([0xC5, 0x34, 0x12], .movAbsA 0x1234), ([0x88, 0x7F], .adcAImm 0x7F),
      ([0x09, 0x20, 0x10], .orDpDp 0x10 0x20), ([0x0C, 0x34, 0x12], .aslAbs 0x1234),
      ([0xBA, 0x10], .movwYaDp 0x10), ([0x9E], .divYaX), ([0x63, 0x10, 0x08], .bbs 3 0x10 0x08),
      ([0x2E, 0x10, 0x08], .cbneDp 0x10 0x08), ([0x1F, 0x00, 0x03], .jmpIndAbsPlusX 0x0300),
      ([0x41], .tcall 4), ([0xA2, 0x10], .set1 5 0x10), ([0x4A, 0x10, 0xC3], .and1CMem 0x0310 6),
      ([0x8F, 0x55, 0x10], .movDpImm 0x10 0x55), ([0xEF], .sleep)] : List (List Byte × Instr)),
    decode e.1 = .ok (e.2, [])

/-- For every well-formed instruction, with every operand at every value its encoding admits, and every following bytes:
decode of its encoding followed by them answers the instruction and them. The order of the operand bytes does not
matter here, since encoder and decoder share it (logs 8, 9, 10). Rests on R100, R101, R117. -/
def Obligations.DecodeOfEncodeIsIdentity : Prop :=
  ∀ (i : Instr) (rest : List Byte), i.wf = true → decode (encode i ++ rest) = .ok (i, rest)

/-- For all bytes code, op1, op2 the decoder answers a well-formed instruction and the rest of the bytes, and the
encoding of the instruction followed by the rest is the three bytes: no code is illegal, no operand bit is dropped.
That 0C is the code of a command is conflict C1 as the spec resolves it (log 34). The order of the operand bytes does
not matter here (logs 8, 9). Rests on R119, R117, R101. -/
def Obligations.EveryCodeDecodesAndReencodes : Prop :=
  ∀ code op1 op2 : Byte, ∃ i rest, decode [code, op1, op2] = .ok (i, rest) ∧ i.wf = true ∧
    encode i ++ rest = [code, op1, op2] ∧ (encode i).length = i.length

/-- For every state whose memory is in canonical form (addresses strictly rising and below 65536, no cell equal to what
an unlisted one reads as), if step answers a next state, that state's memory is in canonical form. The form is the
model's way to hold the cells of R39 (log 1). Rests on R39, R50, R51. -/
def Obligations.StepKeepsMemoryCanonical : Prop :=
  ∀ s t : State, Inv s → step s = .next t → Inv t

/-- Inv holds of State.reset: its memory lists nothing (logs 1, 2). Rests on R42, R39. -/
def Obligations.ResetMemoryCanonical : Prop :=
  Inv State.reset

/-- In State.reset the flags N V P H Z C are 0, pc is the byte at FFFF : the byte at FFFE, and the run state is Running.
The model's choices, not the spec's: A X Y SP B I are 0 (log 3), the parameters have their defaults (log 4), no
answer or write of IO_REGION has happened (log 25). The bytes at FFFE and FFFF are the model's too (log 2). That B
and I are bits 4 and 2 and have no value at reset is conflict C8 as the spec resolves it (D24, log 34). Rests on R42,
R40. -/
def Obligations.ResetStateValues : Prop :=
  (∀ f ∈ ([.n, .v, .p, .h, .z, .c] : List Flag), State.reset.flag f = false) ∧
  State.reset.pc = mkWord (Memory.read State.reset.mem 0xFFFF) (Memory.read State.reset.mem 0xFFFE) ∧
  State.reset.run = .running ∧
  State.reset.a = 0 ∧ State.reset.x = 0 ∧ State.reset.y = 0 ∧ State.reset.sp = 0 ∧
  State.reset.flag .b = false ∧ State.reset.flag .i = false ∧
  State.reset.cfg = {} ∧ State.reset.ioReads = 0 ∧ State.reset.ioLog = []

/-- In every state and for every draw of the environment the reset event succeeds: pc is the word read at FFFE, N V P H Z
C are 0, B, I, A, X, Y, SP are the draw's, each cell below FFC0 is the draw's, the ROM and the parameters are as
before, the run state is Running; and memory is canonical if the draw's and the old one are. The draws are decisions
D24, D27 (log 28). The count of the answers of IO_REGION and the record of the writes there are the model's choice
(log 25). That B and I are bits 4 and 2 is conflict C8 as the spec resolves it (log 34); that reset leaves the
standby states is decision D26 (log 26). Rests on R700, R702, R42. -/
def Obligations.ResetEventWritesWhatTheSpecSays : Prop :=
  ∀ (draw : ResetDraw) (s : State), ∃ t, resetEvent draw s = .ok t ∧
    t.pc = mkWord ((s.afterRead 0xFFFE).byteAt 0xFFFF) (s.byteAt 0xFFFE) ∧
    (∀ f ∈ ([.n, .v, .p, .h, .z, .c] : List Flag), t.flag f = false) ∧
    t.flag .b = draw.b ∧ t.flag .i = draw.i ∧ t.a = draw.a ∧ t.x = draw.x ∧ t.y = draw.y ∧ t.sp = draw.sp ∧
    t.run = .running ∧ t.cfg = s.cfg ∧ SameRom s t ∧
    (∀ k : Nat, k < romBase.toNat → Memory.read t.mem k = Memory.read draw.ram k) ∧
    (draw.ram.wf = true → s.mem.wf = true → t.mem.wf = true)

/-- For every state, whatever its parameters, if step answers a next state then every byte from FFC0 on reads as before
and the parameters are the same. That a write to the ROM is refused is decision D28 (log 24). That the parameters are
a field that no step writes is the model's choice (log 4), and so is that a write at an address of IO_REGION changes
no cell, of the ROM either (log 25). Rests on R61, R5. -/
def Obligations.StepKeepsRomAndParameters : Prop :=
  ∀ s t : State, step s = .next t → SameRom s t ∧ t.cfg = s.cfg

/-- For all 213 instructions: if exec answers a next state, every bit of the PSW outside flagsWritten (the flag column of
the row; C too for CMPW under CMPW_WRITES_C, log 16) is as before. The printed strings are read by letter, and CLRV
and SETP are read, as the spec resolves conflicts C9, C5 and C4, and B and I are bits 4 and 2 by C8 (log 34); that
SETP may write I is decision D23 (log 17), and that CBNE and DBNZ write no flag decision D46 (log 36). Rests on R44,
R10. -/
def Obligations.InstructionsWriteOnlyTheirFlags : Prop :=
  ∀ (i : Instr) (s t : State), exec i s = .next t →
    t.psw &&& ~~~flagsWritten s.cfg i = s.psw &&& ~~~flagsWritten s.cfg i

/-- For all 213 instructions: if exec answers a next state, each of A, X, Y and SP that is not in registersWritten (R43)
is as before. That DIV writes Y is conflict C12 and that MOVW YA,dp writes A and Y is conflict C17, as the spec
resolves them (log 34). Rests on R43. -/
def Obligations.InstructionsWriteOnlyTheirRegisters : Prop :=
  ∀ (i : Instr) (s t : State) (r : RegName), exec i s = .next t → r ∉ registersWritten i →
    t.byteReg r = s.byteReg r

/-- For all 213 instructions: if exec answers a next state, every address that is none of storeAddresses (the destination
computed by ea as the meaning computes it, the stack slots of a push: one of PUSH, two of CALL, PCALL and TCALL,
three of BRK) reads as before; an instruction that stores nothing leaves all of memory. The wraps of the addresses
are decisions D10 to D13 (log 11), the destination of two-operand forms decisions D2 and D47 (logs 8, 35), that
nothing else is stored decision D31 (log 29), that a write at an address of IO_REGION changes no cell the model's
choice (log 25). That BRK pushes PCH, PCL and the PSW is decision D8 (log 22, R473). The page of a direct-page
destination for P = 1 is conflict C6 as the spec resolves it (log 34). Rests on R57, R51, R68, R28, R85, R473. -/
def Obligations.InstructionsStoreOnlyAtTheirAddresses : Prop :=
  ∀ (i : Instr) (s t : State) (k : Nat), exec i s = .next t → (∀ a ∈ storeAddresses s i, a.toNat ≠ k) →
    Memory.read t.mem k = Memory.read s.mem k

/-- NOP completes in every state and changes nothing; SLEEP and STOP complete in every state with the run state Sleep or
Stop and everything else as before. A step asked of a machine in Sleep or Stop ends in the fault of that state; every
instruction other than SLEEP and STOP that completes leaves the run state as it is; so a running machine leaves
Running only by them. Decision D26 (log 26). Rests on R40, R615, R538, R539, R540. -/
def Obligations.OnlySleepAndStopLeaveRunning : Prop :=
  (∀ s : State, exec .nop s = .next s ∧ exec .sleep s = .next { s with run := .sleep } ∧
    exec .stop s = .next { s with run := .stop }) ∧
  (∀ s : State, (s.run = .sleep → step s = .fault .standbySleep) ∧ (s.run = .stop → step s = .fault .standbyStop)) ∧
  ∀ (i : Instr) (s t : State), exec i s = .next t →
    t.run = if i = .sleep then .sleep else if i = .stop then .stop else s.run

/-- DP(off) is off in page 0 or, when P = 1, page 1; the ten memory operand forms give the addresses of R69 to R79, the
pointer of the two indirect forms being the direct-page word, whose high byte is at offset + 1 modulo 256; reading
the operand reads the byte there, and an immediate is itself. The wraps are decisions D10 to D12 (log 11). The count
of the answers of IO_REGION and the record of the writes there are the model's choice (log 25). That the direct page
for P = 1 is 0100 to 01FF is conflict C6 as the spec resolves it (log 34). Rests on R68, R69, R70, R71, R72, R73,
R75, R76, R77, R78, R79, R80. -/
def Obligations.AddressingModesGiveTheirAddresses : Prop :=
  (∀ (s : State) (off : Byte), (s.dp off).toNat = (if s.flag .p then 256 else 0) + off.toNat) ∧
  (∀ (s : State) (d : Byte) (addr : Addr),
    ea .indX s = .ok (s.dp s.x, s) ∧ ea .indY s = .ok (s.dp s.y, s) ∧ ea (.dp d) s = .ok (s.dp d, s) ∧
    ea (.dpPlusX d) s = .ok (s.dp (BitVec.ofNat 8 (d.toNat + s.x.toNat)), s) ∧
    ea (.dpPlusY d) s = .ok (s.dp (BitVec.ofNat 8 (d.toNat + s.y.toNat)), s) ∧
    ea (.abs addr) s = .ok (addr, s) ∧
    ea (.absPlusX addr) s = .ok (BitVec.ofNat 16 (addr.toNat + s.x.toNat), s) ∧
    ea (.absPlusY addr) s = .ok (BitVec.ofNat 16 (addr.toNat + s.y.toNat), s)) ∧
  (∀ (s : State) (d : Byte), s.readable (s.dp d) = true → s.readable (s.dp (d + 1)) = true →
    ∃ w s1, readWordDP d s = .ok (w, s1) ∧ s1 = (s.afterRead (s.dp d)).afterRead (s.dp (d + 1)) ∧
      w.toNat = 256 * ((s.afterRead (s.dp d)).byteAt (s.dp (d + 1))).toNat + (s.byteAt (s.dp d)).toNat ∧
      ea (.indDpPlusY d) s = .ok (BitVec.ofNat 16 (w.toNat + s.y.toNat), s1)) ∧
  (∀ (s : State) (d : Byte), ea (.indDpX d) s = readWordDP (d + s.x) s) ∧
  (∀ (m : Mode) (a : Addr) (s s1 : State), ea m s = .ok (a, s1) → s.readable a = true →
    readOperand (.mem m) s = .ok (s1.byteAt a, s1.afterRead a)) ∧
  ∀ (v : Byte) (s : State), readOperand (.imm v) s = .ok (v, s)

/-- Outside IO_REGION, in every state with RAM_TOP below FFC0: RAM (0000 to RAM_TOP) is read and written; the Unusable
range (RAM_TOP + 1 to FFBF) refuses both under the policy refuse and is read and written under the policy ram; the
ROM (FFC0 to FFFF) is read and refuses writes. A read answers the cell and changes nothing; a write answers the value
back and changes no other cell. In IO_REGION a read answers the environment's next byte and a write is recorded and
changes no cell. Decisions D28, D29 (logs 23, 24, 25). RAM_TOP is a parameter (log 38). Rests on R51, R57, R58, R59,
R60, R61. -/
def Obligations.AccessesFollowTheAddressMap : Prop :=
  ∀ (s : State) (a : Addr) (v : Byte), s.cfg.ramTop.toNat < 0xFFC0 →
    (s.isIo a = true →
      readByte a s = .ok (Config.ioRead s.ioReads a, { s with ioReads := s.ioReads + 1 }) ∧
      writeByte a v s = .ok { s with ioLog := s.ioLog ++ [(a.toNat, v)] }) ∧
    (s.isIo a = false → a.toNat ≤ s.cfg.ramTop.toNat →
      readByte a s = .ok (Memory.read s.mem a.toNat, s) ∧
      ∃ t, writeByte a v s = .ok t ∧ t = { s with mem := t.mem } ∧ Stores [(a, v)] s t) ∧
    (s.isIo a = false → s.cfg.ramTop.toNat < a.toNat → a.toNat < 0xFFC0 → s.cfg.unusablePolicy = .refuse →
      readByte a s = .error (.unusableAccess a) ∧ writeByte a v s = .error (.unusableAccess a)) ∧
    (s.isIo a = false → s.cfg.ramTop.toNat < a.toNat → a.toNat < 0xFFC0 → s.cfg.unusablePolicy = .ram →
      readByte a s = .ok (Memory.read s.mem a.toNat, s) ∧
      ∃ t, writeByte a v s = .ok t ∧ t = { s with mem := t.mem } ∧ Stores [(a, v)] s t) ∧
    (s.isIo a = false → 0xFFC0 ≤ a.toNat →
      readByte a s = .ok (Memory.read s.mem a.toNat, s) ∧ writeByte a v s = .error (.romWrite a))

/-- In every state whose stack bytes can be written and are not in IO_REGION: CALL !abs completes and RET in the state it
leaves completes with the old pc and SP; BRK, where the vector can be read, completes and RET1 in the state it leaves
completes with the old pc, SP and PSW. Nothing else differs from the state the call left. The frame of BRK is general
knowledge (log 22). The return address is decision D15 (log 12), SP modulo 256 decision D13 (log 11), the vector D7
(log 6), the order of the pops conflict C7 as the spec resolves it (log 34). Rests on R85, R604, R470, R473, R474,
R475. -/
def Obligations.ReturnsUndoCallsAndBrk : Prop :=
  (∀ (addr : Addr) (s : State), (∀ p ∈ pushAddresses 2 s.sp, s.writable p = true ∧ s.isIo p = false) →
    ∃ t, exec (.callAbs addr) s = .next t ∧ exec .ret t = .next { t with pc := s.pc, sp := s.sp }) ∧
  ∀ s : State, (∀ p ∈ pushAddresses 3 s.sp, s.writable p = true ∧ s.isIo p = false) →
    s.readable s.cfg.brkVector = true → s.readable (s.cfg.brkVector + 1) = true →
    ∃ t, exec .brk s = .next t ∧ exec .ret1 t = .next { t with pc := s.pc, sp := s.sp, psw := s.psw }

/-- For all memories m and m2 in canonical form, if every address reads the same byte in both, they are equal as data:
the representation of the 65536 cells is unique. The form is the model's way to hold the cells of R39 (log 1). Rests
on R39, R51. -/
def Obligations.CanonicalMemoriesAreEqualData : Prop :=
  ∀ m m2 : Memory, m.wf = true → m2.wf = true → (∀ k : Nat, Memory.read m k = Memory.read m2 k) → m = m2
end

