-- ==== Sys2Proof/Laws/Bits.lean ====
section
/-! SUPPORT. Laws of the bit and byte helpers. -/

namespace Sys2Proof.Machine

/-- The bits of a byte pair: the low byte's, then the high byte's. -/
theorem getLsbD_mkWord (hi lo : Byte) (i : Nat) :
    (mkWord hi lo).getLsbD i = if i < 8 then lo.getLsbD i else hi.getLsbD (i - 8) :=
  BitVec.getLsbD_append

@[simp] theorem hiByte_mkWord (hi lo : Byte) : hiByte (mkWord hi lo) = hi := by
  apply BitVec.eq_of_getLsbD_eq
  intro i hi'
  rw [hiByte, BitVec.getLsbD_extractLsb', getLsbD_mkWord]
  simp [hi']

@[simp] theorem loByte_mkWord (hi lo : Byte) : loByte (mkWord hi lo) = lo := by
  apply BitVec.eq_of_getLsbD_eq
  intro i hi'
  rw [loByte, BitVec.getLsbD_extractLsb', getLsbD_mkWord]
  simp [hi']

@[simp] theorem mkWord_hiByte_loByte (w : Word) : mkWord (hiByte w) (loByte w) = w := by
  apply BitVec.eq_of_getLsbD_eq
  intro i hi'
  rw [getLsbD_mkWord, hiByte, loByte, BitVec.getLsbD_extractLsb', BitVec.getLsbD_extractLsb']
  split
  · simp_all
  · have h8 : i - 8 < 8 := by omega
    have : 8 + (i - 8) = i := by omega
    simp [h8, this]

/-- A byte pair as a number: 256 * hi + lo (00_scope.md R6). -/
theorem mkWord_toNat (hi lo : Byte) : (mkWord hi lo).toNat = 256 * hi.toNat + lo.toNat := by
  have h := lo.isLt
  rw [mkWord, BitVec.toNat_append, Nat.shiftLeft_eq, ← Nat.shiftLeft_eq, ← Nat.shiftLeft_add_eq_or_of_lt h,
    Nat.shiftLeft_eq]
  omega

/-- A byte pair determines its bytes. -/
theorem mkWord_inj {h1 h2 l1 l2 : Byte} : mkWord h1 l1 = mkWord h2 l2 ↔ h1 = h2 ∧ l1 = l2 := by
  constructor
  · intro h
    exact ⟨by simpa using congrArg hiByte h, by simpa using congrArg loByte h⟩
  · rintro ⟨rfl, rfl⟩
    rfl

/-- `withbit` replaces one bit and keeps the others (48_bit.md R500). -/
theorem testBit8_withBit (m : Byte) {b c : Nat} (v : Bool) (hb : b < 8) (hc : c < 8) :
    testBit8 (withBit m b v) c = if c = b then v else testBit8 m c := by
  simp only [testBit8, withBit]
  interval_cases b <;> interval_cases c <;> cases v <;> simp

/-! The packing of mem.bit (20_memory.md R82). -/

theorem memBitAddr_lt (w : Word) : (memBitAddr w).toNat < 8192 := by
  have h : (memBitAddr w).toNat ≤ 8191 := by
    rw [memBitAddr, BitVec.toNat_and]
    exact Nat.and_le_right
  omega

theorem memBitNo_lt (w : Word) : memBitNo w < 8 := by
  have h := w.isLt
  rw [memBitNo, BitVec.toNat_ushiftRight, Nat.shiftRight_eq_div_pow]
  omega

theorem packMemBit_unpack (w : Word) : packMemBit (memBitAddr w) (memBitNo w) = w := by
  apply BitVec.eq_of_getLsbD_eq
  intro i hi
  have hn : (BitVec.ofNat 16 (memBitNo w)) = w >>> 13 := by
    apply BitVec.eq_of_toNat_eq
    rw [BitVec.toNat_ofNat, memBitNo, Nat.mod_eq_of_lt (BitVec.isLt _)]
  rw [packMemBit, hn]
  simp only [memBitAddr, BitVec.getLsbD_or, BitVec.getLsbD_shiftLeft, BitVec.getLsbD_ushiftRight, BitVec.getLsbD_and]
  interval_cases i <;> simp

theorem memBitAddr_pack {addr : Addr} (bit : Nat) (ha : addr.toNat < 8192) :
    memBitAddr (packMemBit addr bit) = addr := by
  apply BitVec.eq_of_getLsbD_eq
  intro i hi
  have hai : 13 ≤ i → addr.getLsbD i = false := fun h =>
    Nat.testBit_lt_two_pow (Nat.lt_of_lt_of_le ha (Nat.pow_le_pow_right (n := 2) (by decide) h))
  simp only [packMemBit, memBitAddr, BitVec.getLsbD_or, BitVec.getLsbD_shiftLeft, BitVec.getLsbD_and]
  interval_cases i <;> simp <;> simp_all

theorem memBitNo_pack (addr : Addr) {bit : Nat} (hb : bit < 8) :
    memBitNo (packMemBit addr bit) = bit := by
  have h1 : (packMemBit addr bit) >>> 13 = BitVec.ofNat 16 bit := by
    apply BitVec.eq_of_getLsbD_eq
    intro i hi
    simp only [packMemBit, BitVec.getLsbD_ushiftRight, BitVec.getLsbD_or, BitVec.getLsbD_shiftLeft, BitVec.getLsbD_and]
    interval_cases bit <;> interval_cases i <;> simp
  rw [memBitNo, h1]
  simp
  omega

end Sys2Proof.Machine
end

