-- ==== Sys2Proof/Laws/State.lean ====
section
/-! SUPPORT. What each update of the state leaves in each field: one lemma per field per update. -/

namespace Sys2Proof.Machine

/-! `setFlag` -/

@[simp] theorem setFlag_a (s : State) (f : Flag) (v : Bool) : (s.setFlag f v).a = s.a := rfl
@[simp] theorem setFlag_x (s : State) (f : Flag) (v : Bool) : (s.setFlag f v).x = s.x := rfl
@[simp] theorem setFlag_y (s : State) (f : Flag) (v : Bool) : (s.setFlag f v).y = s.y := rfl
@[simp] theorem setFlag_sp (s : State) (f : Flag) (v : Bool) : (s.setFlag f v).sp = s.sp := rfl
@[simp] theorem setFlag_psw (s : State) (f : Flag) (v : Bool) : (s.setFlag f v).psw = withBit s.psw f.bit v := rfl
@[simp] theorem setFlag_pc (s : State) (f : Flag) (v : Bool) : (s.setFlag f v).pc = s.pc := rfl
@[simp] theorem setFlag_mem (s : State) (f : Flag) (v : Bool) : (s.setFlag f v).mem = s.mem := rfl
@[simp] theorem setFlag_run (s : State) (f : Flag) (v : Bool) : (s.setFlag f v).run = s.run := rfl
@[simp] theorem setFlag_cfg (s : State) (f : Flag) (v : Bool) : (s.setFlag f v).cfg = s.cfg := rfl
@[simp] theorem setFlag_ioReads (s : State) (f : Flag) (v : Bool) : (s.setFlag f v).ioReads = s.ioReads := rfl
@[simp] theorem setFlag_ioLog (s : State) (f : Flag) (v : Bool) : (s.setFlag f v).ioLog = s.ioLog := rfl

/-! `setNZ8` -/

@[simp] theorem setNZ8_a (s : State) (v : Byte) : (setNZ8 v s).a = s.a := rfl
@[simp] theorem setNZ8_x (s : State) (v : Byte) : (setNZ8 v s).x = s.x := rfl
@[simp] theorem setNZ8_y (s : State) (v : Byte) : (setNZ8 v s).y = s.y := rfl
@[simp] theorem setNZ8_sp (s : State) (v : Byte) : (setNZ8 v s).sp = s.sp := rfl
@[simp] theorem setNZ8_pc (s : State) (v : Byte) : (setNZ8 v s).pc = s.pc := rfl
@[simp] theorem setNZ8_mem (s : State) (v : Byte) : (setNZ8 v s).mem = s.mem := rfl
@[simp] theorem setNZ8_run (s : State) (v : Byte) : (setNZ8 v s).run = s.run := rfl
@[simp] theorem setNZ8_cfg (s : State) (v : Byte) : (setNZ8 v s).cfg = s.cfg := rfl
@[simp] theorem setNZ8_ioReads (s : State) (v : Byte) : (setNZ8 v s).ioReads = s.ioReads := rfl
@[simp] theorem setNZ8_ioLog (s : State) (v : Byte) : (setNZ8 v s).ioLog = s.ioLog := rfl

/-! `setNZ16` -/

@[simp] theorem setNZ16_a (s : State) (w : Word) : (setNZ16 w s).a = s.a := rfl
@[simp] theorem setNZ16_x (s : State) (w : Word) : (setNZ16 w s).x = s.x := rfl
@[simp] theorem setNZ16_y (s : State) (w : Word) : (setNZ16 w s).y = s.y := rfl
@[simp] theorem setNZ16_sp (s : State) (w : Word) : (setNZ16 w s).sp = s.sp := rfl
@[simp] theorem setNZ16_pc (s : State) (w : Word) : (setNZ16 w s).pc = s.pc := rfl
@[simp] theorem setNZ16_mem (s : State) (w : Word) : (setNZ16 w s).mem = s.mem := rfl
@[simp] theorem setNZ16_run (s : State) (w : Word) : (setNZ16 w s).run = s.run := rfl
@[simp] theorem setNZ16_cfg (s : State) (w : Word) : (setNZ16 w s).cfg = s.cfg := rfl
@[simp] theorem setNZ16_ioReads (s : State) (w : Word) : (setNZ16 w s).ioReads = s.ioReads := rfl
@[simp] theorem setNZ16_ioLog (s : State) (w : Word) : (setNZ16 w s).ioLog = s.ioLog := rfl

/-! `setYa` -/

@[simp] theorem setYa_a (s : State) (w : Word) : (s.setYa w).a = loByte w := rfl
@[simp] theorem setYa_x (s : State) (w : Word) : (s.setYa w).x = s.x := rfl
@[simp] theorem setYa_y (s : State) (w : Word) : (s.setYa w).y = hiByte w := rfl
@[simp] theorem setYa_sp (s : State) (w : Word) : (s.setYa w).sp = s.sp := rfl
@[simp] theorem setYa_psw (s : State) (w : Word) : (s.setYa w).psw = s.psw := rfl
@[simp] theorem setYa_pc (s : State) (w : Word) : (s.setYa w).pc = s.pc := rfl
@[simp] theorem setYa_mem (s : State) (w : Word) : (s.setYa w).mem = s.mem := rfl
@[simp] theorem setYa_run (s : State) (w : Word) : (s.setYa w).run = s.run := rfl
@[simp] theorem setYa_cfg (s : State) (w : Word) : (s.setYa w).cfg = s.cfg := rfl
@[simp] theorem setYa_ioReads (s : State) (w : Word) : (s.setYa w).ioReads = s.ioReads := rfl
@[simp] theorem setYa_ioLog (s : State) (w : Word) : (s.setYa w).ioLog = s.ioLog := rfl

/-! `branch` -/

@[simp] theorem branch_a (s : State) (rel : Byte) : (s.branch rel).a = s.a := rfl
@[simp] theorem branch_x (s : State) (rel : Byte) : (s.branch rel).x = s.x := rfl
@[simp] theorem branch_y (s : State) (rel : Byte) : (s.branch rel).y = s.y := rfl
@[simp] theorem branch_sp (s : State) (rel : Byte) : (s.branch rel).sp = s.sp := rfl
@[simp] theorem branch_psw (s : State) (rel : Byte) : (s.branch rel).psw = s.psw := rfl
@[simp] theorem branch_pc (s : State) (rel : Byte) : (s.branch rel).pc = s.pc + sext16 rel := rfl
@[simp] theorem branch_mem (s : State) (rel : Byte) : (s.branch rel).mem = s.mem := rfl
@[simp] theorem branch_run (s : State) (rel : Byte) : (s.branch rel).run = s.run := rfl
@[simp] theorem branch_cfg (s : State) (rel : Byte) : (s.branch rel).cfg = s.cfg := rfl
@[simp] theorem branch_ioReads (s : State) (rel : Byte) : (s.branch rel).ioReads = s.ioReads := rfl
@[simp] theorem branch_ioLog (s : State) (rel : Byte) : (s.branch rel).ioLog = s.ioLog := rfl

/-! `branchIf` -/

@[simp] theorem branchIf_a (s : State) (c : Bool) (rel : Byte) : (s.branchIf c rel).a = s.a := by cases c <;> rfl
@[simp] theorem branchIf_x (s : State) (c : Bool) (rel : Byte) : (s.branchIf c rel).x = s.x := by cases c <;> rfl
@[simp] theorem branchIf_y (s : State) (c : Bool) (rel : Byte) : (s.branchIf c rel).y = s.y := by cases c <;> rfl
@[simp] theorem branchIf_sp (s : State) (c : Bool) (rel : Byte) : (s.branchIf c rel).sp = s.sp := by cases c <;> rfl
@[simp] theorem branchIf_psw (s : State) (c : Bool) (rel : Byte) : (s.branchIf c rel).psw = s.psw := by cases c <;> rfl
@[simp] theorem branchIf_pc (s : State) (c : Bool) (rel : Byte) : (s.branchIf c rel).pc = if c then s.pc + sext16 rel else s.pc := by cases c <;> rfl
@[simp] theorem branchIf_mem (s : State) (c : Bool) (rel : Byte) : (s.branchIf c rel).mem = s.mem := by cases c <;> rfl
@[simp] theorem branchIf_run (s : State) (c : Bool) (rel : Byte) : (s.branchIf c rel).run = s.run := by cases c <;> rfl
@[simp] theorem branchIf_cfg (s : State) (c : Bool) (rel : Byte) : (s.branchIf c rel).cfg = s.cfg := by cases c <;> rfl
@[simp] theorem branchIf_ioReads (s : State) (c : Bool) (rel : Byte) : (s.branchIf c rel).ioReads = s.ioReads := by cases c <;> rfl
@[simp] theorem branchIf_ioLog (s : State) (c : Bool) (rel : Byte) : (s.branchIf c rel).ioLog = s.ioLog := by cases c <;> rfl

/-! `afterRead` -/

@[simp] theorem afterRead_a (s : State) (addr : Addr) : (s.afterRead addr).a = s.a := by unfold State.afterRead; split <;> rfl
@[simp] theorem afterRead_x (s : State) (addr : Addr) : (s.afterRead addr).x = s.x := by unfold State.afterRead; split <;> rfl
@[simp] theorem afterRead_y (s : State) (addr : Addr) : (s.afterRead addr).y = s.y := by unfold State.afterRead; split <;> rfl
@[simp] theorem afterRead_sp (s : State) (addr : Addr) : (s.afterRead addr).sp = s.sp := by unfold State.afterRead; split <;> rfl
@[simp] theorem afterRead_psw (s : State) (addr : Addr) : (s.afterRead addr).psw = s.psw := by unfold State.afterRead; split <;> rfl
@[simp] theorem afterRead_pc (s : State) (addr : Addr) : (s.afterRead addr).pc = s.pc := by unfold State.afterRead; split <;> rfl
@[simp] theorem afterRead_mem (s : State) (addr : Addr) : (s.afterRead addr).mem = s.mem := by unfold State.afterRead; split <;> rfl
@[simp] theorem afterRead_run (s : State) (addr : Addr) : (s.afterRead addr).run = s.run := by unfold State.afterRead; split <;> rfl
@[simp] theorem afterRead_cfg (s : State) (addr : Addr) : (s.afterRead addr).cfg = s.cfg := by unfold State.afterRead; split <;> rfl
@[simp] theorem afterRead_ioReads (s : State) (addr : Addr) : (s.afterRead addr).ioReads = if s.isIo addr then s.ioReads + 1 else s.ioReads := by unfold State.afterRead; split <;> rfl
@[simp] theorem afterRead_ioLog (s : State) (addr : Addr) : (s.afterRead addr).ioLog = s.ioLog := by unfold State.afterRead; split <;> rfl

/-! `afterWrite` -/

@[simp] theorem afterWrite_a (s : State) (addr : Addr) (v : Byte) : (s.afterWrite addr v).a = s.a := by unfold State.afterWrite; split <;> rfl
@[simp] theorem afterWrite_x (s : State) (addr : Addr) (v : Byte) : (s.afterWrite addr v).x = s.x := by unfold State.afterWrite; split <;> rfl
@[simp] theorem afterWrite_y (s : State) (addr : Addr) (v : Byte) : (s.afterWrite addr v).y = s.y := by unfold State.afterWrite; split <;> rfl
@[simp] theorem afterWrite_sp (s : State) (addr : Addr) (v : Byte) : (s.afterWrite addr v).sp = s.sp := by unfold State.afterWrite; split <;> rfl
@[simp] theorem afterWrite_psw (s : State) (addr : Addr) (v : Byte) : (s.afterWrite addr v).psw = s.psw := by unfold State.afterWrite; split <;> rfl
@[simp] theorem afterWrite_pc (s : State) (addr : Addr) (v : Byte) : (s.afterWrite addr v).pc = s.pc := by unfold State.afterWrite; split <;> rfl
@[simp] theorem afterWrite_mem (s : State) (addr : Addr) (v : Byte) : (s.afterWrite addr v).mem = if s.isIo addr then s.mem else Memory.write s.mem addr.toNat v := by unfold State.afterWrite; split <;> rfl
@[simp] theorem afterWrite_run (s : State) (addr : Addr) (v : Byte) : (s.afterWrite addr v).run = s.run := by unfold State.afterWrite; split <;> rfl
@[simp] theorem afterWrite_cfg (s : State) (addr : Addr) (v : Byte) : (s.afterWrite addr v).cfg = s.cfg := by unfold State.afterWrite; split <;> rfl
@[simp] theorem afterWrite_ioReads (s : State) (addr : Addr) (v : Byte) : (s.afterWrite addr v).ioReads = s.ioReads := by unfold State.afterWrite; split <;> rfl
@[simp] theorem afterWrite_ioLog (s : State) (addr : Addr) (v : Byte) : (s.afterWrite addr v).ioLog = if s.isIo addr then s.ioLog ++ [(addr.toNat, v)] else s.ioLog := by unfold State.afterWrite; split <;> rfl

/-! `setReg` -/

@[simp] theorem setReg_a (s : State) (v : Byte) : s.setReg .a v = { s with a := v } := rfl
@[simp] theorem setReg_x (s : State) (v : Byte) : s.setReg .x v = { s with x := v } := rfl
@[simp] theorem setReg_y (s : State) (v : Byte) : s.setReg .y v = { s with y := v } := rfl
@[simp] theorem reg_a (s : State) : s.reg .a = s.a := rfl
@[simp] theorem reg_x (s : State) : s.reg .x = s.x := rfl
@[simp] theorem reg_y (s : State) : s.reg .y = s.y := rfl

end Sys2Proof.Machine
end

