-- ==== Sys2Proof/Laws/Flags.lean ====
section
/-! SUPPORT. What each flag computation writes: its flags, and no other flag and no other field. -/

namespace Sys2Proof.Machine

theorem Flag.bit_lt (f : Flag) : f.bit < 8 := by cases f <;> decide

theorem Flag.bit_inj {f g : Flag} (h : f.bit = g.bit) : f = g := by
  revert h
  cases f <;> cases g <;> decide

/-- Writing a flag gives it its value and keeps the other seven (10_state.md R29). -/
@[simp] theorem flag_setFlag (s : State) (f g : Flag) (v : Bool) :
    (s.setFlag f v).flag g = if g = f then v else s.flag g := by
  rw [State.flag, State.setFlag, testBit8_withBit _ _ f.bit_lt g.bit_lt]
  by_cases h : g = f
  · simp [h]
  · rw [if_neg h, if_neg (fun hb => h (Flag.bit_inj hb)), State.flag]

/-- A flag depends on the PSW alone. -/
theorem flag_congr {s t : State} (h : s.psw = t.psw) (f : Flag) : s.flag f = t.flag f := by
  rw [State.flag, State.flag, h]

/-- Two bytes with the same eight flags are the same PSW. -/
theorem psw_ext {s t : State} (h : ∀ f, s.flag f = t.flag f) : s.psw = t.psw := by
  apply BitVec.eq_of_getLsbD_eq
  intro i hi
  have key : ∃ f : Flag, f.bit = i := by
    interval_cases i
    exacts [⟨.c, rfl⟩, ⟨.z, rfl⟩, ⟨.i, rfl⟩, ⟨.h, rfl⟩, ⟨.b, rfl⟩, ⟨.p, rfl⟩, ⟨.v, rfl⟩, ⟨.n, rfl⟩]
  obtain ⟨f, rfl⟩ := key
  exact h f

/-- `setNZ8`: N and Z from the byte, the other flags kept (40_mov8.md R200). -/
@[simp] theorem flag_setNZ8 (v : Byte) (s : State) (f : Flag) :
    (setNZ8 v s).flag f = if f = .z then v == 0 else if f = .n then v.msb else s.flag f := by
  simp [setNZ8]

/-- `setNZ16`: N and Z from the word, the other flags kept (44_word16.md R390). -/
@[simp] theorem flag_setNZ16 (w : Word) (s : State) (f : Flag) :
    (setNZ16 w s).flag f = if f = .z then w == 0 else if f = .n then w.msb else s.flag f := by
  simp [setNZ16]

/-- The state differs from `s` in the PSW at most. -/
def PswOnly (s t : State) : Prop := t = { s with psw := t.psw }

theorem PswOnly.refl (s : State) : PswOnly s s := rfl

theorem PswOnly.trans {s t u : State} (h1 : PswOnly s t) (h2 : PswOnly t u) : PswOnly s u := by
  unfold PswOnly at *
  rw [h2, h1]

theorem setFlag_pswOnly (s : State) (f : Flag) (v : Bool) : PswOnly s (s.setFlag f v) := rfl

theorem setNZ8_pswOnly (v : Byte) (s : State) : PswOnly s (setNZ8 v s) := rfl

theorem setNZ16_pswOnly (w : Word) (s : State) : PswOnly s (setNZ16 w s) := rfl

/-! The 8-bit operations: the PSW at most, and which flags. -/

theorem adc8_pswOnly (a m : Byte) (s : State) : PswOnly s (adc8 a m s).2 := rfl
theorem sbc8_pswOnly (a m : Byte) (s : State) : PswOnly s (sbc8 a m s).2 := rfl
theorem and8_pswOnly (a m : Byte) (s : State) : PswOnly s (and8 a m s).2 := rfl
theorem or8_pswOnly (a m : Byte) (s : State) : PswOnly s (or8 a m s).2 := rfl
theorem eor8_pswOnly (a m : Byte) (s : State) : PswOnly s (eor8 a m s).2 := rfl
theorem inc8_pswOnly (v : Byte) (s : State) : PswOnly s (inc8 v s).2 := rfl
theorem dec8_pswOnly (v : Byte) (s : State) : PswOnly s (dec8 v s).2 := rfl
theorem asl8_pswOnly (v : Byte) (s : State) : PswOnly s (asl8 v s).2 := rfl
theorem lsr8_pswOnly (v : Byte) (s : State) : PswOnly s (lsr8 v s).2 := rfl
theorem rol8_pswOnly (v : Byte) (s : State) : PswOnly s (rol8 v s).2 := rfl
theorem ror8_pswOnly (v : Byte) (s : State) : PswOnly s (ror8 v s).2 := rfl
theorem xcn8_pswOnly (v : Byte) (s : State) : PswOnly s (xcn8 v s).2 := rfl
theorem cmp8_pswOnly (a m : Byte) (s : State) : PswOnly s (cmp8 a m s) := rfl
theorem addw16_pswOnly (ya w : Word) (s : State) : PswOnly s (addw16 ya w s).2 := rfl
theorem subw16_pswOnly (ya w : Word) (s : State) : PswOnly s (subw16 ya w s).2 := rfl

theorem cmpw16_pswOnly (ya w : Word) (s : State) : PswOnly s (cmpw16 ya w s) := by
  unfold cmpw16
  dsimp only
  split <;> rfl

theorem mulFlags16_pswOnly (p : Word) (s : State) : PswOnly s (mulFlags16 p s) := by
  unfold mulFlags16
  split <;> rfl

theorem testAgainstA_pswOnly (m : Byte) (s : State) : PswOnly s (testAgainstA m s) := by
  unfold testAgainstA
  split <;> rfl

/-- ADC: the flags N V H Z C (41_arith8.md R250). -/
theorem adc8_flag (a m : Byte) (s : State) (f : Flag) :
    (adc8 a m s).2.flag f =
      if f = .z then (adc8 a m s).1 == 0
      else if f = .n then (adc8 a m s).1.msb
      else if f = .v then a.msb == m.msb && (adc8 a m s).1.msb != a.msb
      else if f = .h then decide (15 < a.toNat % 16 + m.toNat % 16 + (s.flag .c).toNat)
      else if f = .c then decide (255 < a.toNat + m.toNat + (s.flag .c).toNat)
      else s.flag f := by
  simp [adc8]

/-- SBC: the flags N V H Z C (41_arith8.md R251). -/
theorem sbc8_flag (a m : Byte) (s : State) (f : Flag) :
    (sbc8 a m s).2.flag f =
      if f = .z then (sbc8 a m s).1 == 0
      else if f = .n then (sbc8 a m s).1.msb
      else if f = .v then a.msb != m.msb && (sbc8 a m s).1.msb != a.msb
      else if f = .h then decide (m.toNat % 16 + (!s.flag .c).toNat ≤ a.toNat % 16)
      else if f = .c then decide (m.toNat + (!s.flag .c).toNat ≤ a.toNat)
      else s.flag f := by
  simp [sbc8]

/-- CMP: the flags N Z C (41_arith8.md R252). -/
theorem cmp8_flag (a m : Byte) (s : State) (f : Flag) :
    (cmp8 a m s).flag f =
      if f = .z then a - m == 0 else if f = .n then (a - m).msb
      else if f = .c then decide (m.toNat ≤ a.toNat) else s.flag f := by
  simp [cmp8]

/-- ADDW: the flags N V H Z C (44_word16.md R391). -/
theorem addw16_flag (ya w : Word) (s : State) (f : Flag) :
    (addw16 ya w s).2.flag f =
      if f = .z then (addw16 ya w s).1 == 0
      else if f = .n then (addw16 ya w s).1.msb
      else if f = .v then ya.msb == w.msb && (addw16 ya w s).1.msb != ya.msb
      else if f = .h then decide (2 ^ (s.cfg.h16Bit.val + 1) ≤
        ya.toNat % 2 ^ (s.cfg.h16Bit.val + 1) + w.toNat % 2 ^ (s.cfg.h16Bit.val + 1))
      else if f = .c then decide (65535 < ya.toNat + w.toNat)
      else s.flag f := by
  simp [addw16]

/-- SUBW: the flags N V H Z C (44_word16.md R392). -/
theorem subw16_flag (ya w : Word) (s : State) (f : Flag) :
    (subw16 ya w s).2.flag f =
      if f = .z then (subw16 ya w s).1 == 0
      else if f = .n then (subw16 ya w s).1.msb
      else if f = .v then ya.msb != w.msb && (subw16 ya w s).1.msb != ya.msb
      else if f = .h then decide (w.toNat % 2 ^ (s.cfg.h16Bit.val + 1) ≤ ya.toNat % 2 ^ (s.cfg.h16Bit.val + 1))
      else if f = .c then decide (w.toNat ≤ ya.toNat)
      else s.flag f := by
  simp [subw16]

/-- CMPW: N and Z, and C where CMPW_WRITES_C says so (44_word16.md R399). -/
theorem cmpw16_flag (ya w : Word) (s : State) (f : Flag) :
    (cmpw16 ya w s).flag f =
      if f = .z then ya - w == 0
      else if f = .n then (ya - w).msb
      else if f = .c ∧ s.cfg.cmpwWritesC then decide (w.toNat ≤ ya.toNat)
      else s.flag f := by
  unfold cmpw16
  by_cases h : s.cfg.cmpwWritesC = true
  · cases f <;> simp [h]
  · cases f <;> simp [h]

/-- MUL: N and Z of the product or of its high byte (45_muldiv_decimal.md R410). -/
theorem mulFlags16_flag (p : Word) (s : State) (f : Flag) :
    (mulFlags16 p s).flag f =
      if f = .z then (if s.cfg.mulFlags = .ya then p == 0 else hiByte p == 0)
      else if f = .n then (if s.cfg.mulFlags = .ya then p.msb else (hiByte p).msb)
      else s.flag f := by
  unfold mulFlags16
  split <;> simp_all

/-- TSET1 and TCLR1: N and Z of the test that TSET_TEST chooses (48_bit.md R503, R504). -/
theorem testAgainstA_flag (m : Byte) (s : State) (f : Flag) :
    (testAgainstA m s).flag f =
      if f = .z then (if s.cfg.tsetTest = .sub then s.a - m == 0 else s.a &&& m == 0)
      else if f = .n then (if s.cfg.tsetTest = .sub then (s.a - m).msb else (s.a &&& m).msb)
      else s.flag f := by
  unfold testAgainstA
  split <;> simp_all

/-- The shifts: N and Z of the result, C from the bit shifted out (43_incdec_shift.md R351 to R354). -/
theorem asl8_flag (v : Byte) (s : State) (f : Flag) :
    (asl8 v s).2.flag f = if f = .z then v <<< 1 == 0 else if f = .n then (v <<< 1).msb
      else if f = .c then v.msb else s.flag f := by
  simp [asl8]

theorem lsr8_flag (v : Byte) (s : State) (f : Flag) :
    (lsr8 v s).2.flag f = if f = .z then v >>> 1 == 0 else if f = .n then (v >>> 1).msb
      else if f = .c then testBit8 v 0 else s.flag f := by
  simp [lsr8]

theorem rol8_flag (v : Byte) (s : State) (f : Flag) :
    (rol8 v s).2.flag f = if f = .z then (rol8 v s).1 == 0 else if f = .n then (rol8 v s).1.msb
      else if f = .c then v.msb else s.flag f := by
  simp [rol8]

theorem ror8_flag (v : Byte) (s : State) (f : Flag) :
    (ror8 v s).2.flag f = if f = .z then (ror8 v s).1 == 0 else if f = .n then (ror8 v s).1.msb
      else if f = .c then testBit8 v 0 else s.flag f := by
  simp [ror8]

/-! The arithmetic of the results. -/

/-- ADC's result is the sum modulo 256 (41_arith8.md R250). -/
theorem adc8_value (a m : Byte) (s : State) :
    (adc8 a m s).1 = a + m + BitVec.ofNat 8 (s.flag .c).toNat := by
  apply BitVec.eq_of_toNat_eq
  simp [adc8, BitVec.toNat_add]

/-- SBC's result is the difference modulo 256 (41_arith8.md R251). -/
theorem sbc8_value (a m : Byte) (s : State) :
    (sbc8 a m s).1 = a - m - BitVec.ofNat 8 (!s.flag .c).toNat := by
  apply BitVec.eq_of_toNat_eq
  have ha := a.isLt
  have hm := m.isLt
  cases h : s.flag .c <;> simp [sbc8, h, BitVec.toNat_sub] <;> omega

/-- ADDW's result is the sum modulo 65536 (44_word16.md R391). -/
theorem addw16_value (ya w : Word) (s : State) : (addw16 ya w s).1 = ya + w := by
  apply BitVec.eq_of_toNat_eq
  simp [addw16, BitVec.toNat_add]

/-- SUBW's result is the difference modulo 65536 (44_word16.md R392). -/
@[simp] theorem subw16_value (ya w : Word) (s : State) : (subw16 ya w s).1 = ya - w := rfl

end Sys2Proof.Machine
end

