-- ==== Sys2Proof/Laws/Memory.lean ====
section
/-! SUPPORT. The laws of memory: a read after a write, and the canonical form that every write keeps. -/

namespace Sys2Proof.Machine

theorem Memory.read_filter_other (m : Memory) {addr k : Nat} (h : k ≠ addr) :
    Memory.read (m.filter (fun c => c.1 ≠ addr)) k = Memory.read m k := by
  induction m with
  | nil => rfl
  | cons c rest ih =>
    obtain ⟨n, b⟩ := c
    by_cases hn : n = addr
    · have hk : n ≠ k := fun e => h (e ▸ hn)
      simp only [ne_eq, hn, not_true_eq_false, decide_false, Bool.false_eq_true, not_false_eq_true, List.filter_cons_of_neg]
      rw [Memory.read, if_neg (hn ▸ hk)]
      simpa using ih
    · simp only [ne_eq, hn, not_false_eq_true, decide_true, List.filter_cons_of_pos, Memory.read]
      split
      · rfl
      · simpa using ih

theorem Memory.read_filter_self (m : Memory) (addr : Nat) :
    Memory.read (m.filter (fun c => c.1 ≠ addr)) addr = Memory.unlisted := by
  induction m with
  | nil => rfl
  | cons c rest ih =>
    obtain ⟨n, b⟩ := c
    by_cases hn : n = addr
    · simpa [hn] using ih
    · simp only [ne_eq, hn, not_false_eq_true, decide_true, List.filter_cons_of_pos, Memory.read, if_false]
      simpa using ih

theorem Memory.read_insert_self (m : Memory) (addr : Nat) (v : Byte)
    (h : Memory.read m addr = Memory.unlisted) (hk : ∀ c ∈ m, c.1 ≠ addr) :
    Memory.read (Memory.insert addr v m) addr = v := by
  induction m with
  | nil => simp [Memory.insert, Memory.read]
  | cons c rest ih =>
    obtain ⟨n, b⟩ := c
    have hn : n ≠ addr := hk (n, b) (by simp)
    simp only [Memory.insert]
    split
    · simp [Memory.read]
    · rw [Memory.read, if_neg hn]
      rw [Memory.read, if_neg hn] at h
      exact ih h (fun c hc => hk c (by simp [hc]))

theorem Memory.read_insert_other (m : Memory) {addr k : Nat} (v : Byte) (h : k ≠ addr) :
    Memory.read (Memory.insert addr v m) k = Memory.read m k := by
  induction m with
  | nil => simp [Memory.insert, Memory.read, Ne.symm h]
  | cons c rest ih =>
    obtain ⟨n, b⟩ := c
    simp only [Memory.insert]
    split
    · rw [Memory.read, if_neg (Ne.symm h)]
    · simp only [Memory.read, ih]

theorem Memory.insert_wf (v : Byte) (hv : v ≠ Memory.unlisted) :
    ∀ (m : Memory) (low addr : Nat), Memory.wfFrom low m = true → (∀ c ∈ m, c.1 ≠ addr) → low ≤ addr →
      addr < 65536 → Memory.wfFrom low (Memory.insert addr v m) = true
  | [], low, addr, _, _, hl, ha => by simp [Memory.insert, Memory.wfFrom, hl, ha, hv]
  | (n, b) :: rest, low, addr, hw, hk, hl, ha => by
    have hn : n ≠ addr := hk (n, b) (by simp)
    simp only [Memory.wfFrom, Bool.and_eq_true, decide_eq_true_eq] at hw
    obtain ⟨⟨⟨h1, h2⟩, h3⟩, h4⟩ := hw
    simp only [Memory.insert]
    split
    · rename_i hlt
      have : addr + 1 ≤ n := hlt
      simp [Memory.wfFrom, hl, ha, hv, h2, h3, h4, this]
    · rename_i hlt
      have ih := Memory.insert_wf v hv rest (n + 1) addr h4 (fun c hc => hk c (by simp [hc])) (by omega) ha
      simp [Memory.wfFrom, h1, h2, h3, ih]

theorem Memory.wfFrom_mono : ∀ (m : Memory) {low low' : Nat}, low' ≤ low → Memory.wfFrom low m = true →
    Memory.wfFrom low' m = true
  | [], _, _, _, _ => rfl
  | (n, b) :: rest, low, low', h, hw => by
    simp only [Memory.wfFrom, Bool.and_eq_true, decide_eq_true_eq] at hw ⊢
    exact ⟨⟨⟨by omega, hw.1.1.2⟩, hw.1.2⟩, hw.2⟩

theorem Memory.filter_wf (p : Host.Cell → Bool) : ∀ (m : Memory) (low : Nat), Memory.wfFrom low m = true →
    Memory.wfFrom low (m.filter p) = true
  | [], _, _ => rfl
  | (n, b) :: rest, low, hw => by
    simp only [Memory.wfFrom, Bool.and_eq_true, decide_eq_true_eq] at hw
    obtain ⟨⟨⟨h1, h2⟩, h3⟩, h4⟩ := hw
    have ih := Memory.filter_wf p rest (n + 1) h4
    by_cases hp : p (n, b) = true
    · simp [hp, Memory.wfFrom, h1, h2, h3, ih]
    · simp only [List.filter_cons, hp, Bool.false_eq_true, if_false]
      exact Memory.wfFrom_mono _ (by omega) ih

/-- A write keeps the canonical form. -/
theorem Memory.write_wf {m : Memory} {addr : Nat} (v : Byte) (h : Memory.wf m = true) (ha : addr < 65536) :
    Memory.wf (Memory.write m addr v) = true := by
  have hf := Memory.filter_wf (fun c => c.1 ≠ addr) m 0 h
  unfold Memory.write
  dsimp only
  split
  · exact hf
  · rename_i hv
    exact Memory.insert_wf v hv _ 0 addr hf (by intro c hc; simpa using (List.mem_filter.mp hc).2) (by omega) ha

/-- Reading the address written gives the value written, in any memory. -/
@[simp] theorem Memory.read_write_self (m : Memory) (addr : Nat) (v : Byte) :
    Memory.read (Memory.write m addr v) addr = v := by
  unfold Memory.write
  dsimp only
  split
  · rename_i hv
    rw [Memory.read_filter_self, hv]
  · exact Memory.read_insert_self _ _ _ (Memory.read_filter_self m addr)
      (by intro c hc; simpa using (List.mem_filter.mp hc).2)

/-- A write leaves every other address as it was, in any memory. -/
theorem Memory.read_write_other (m : Memory) {addr k : Nat} (v : Byte) (h : k ≠ addr) :
    Memory.read (Memory.write m addr v) k = Memory.read m k := by
  unfold Memory.write
  dsimp only
  split
  · exact Memory.read_filter_other m h
  · rw [Memory.read_insert_other _ _ h, Memory.read_filter_other m h]

/-- A read after a write. -/
theorem Memory.read_write (m : Memory) (addr k : Nat) (v : Byte) :
    Memory.read (Memory.write m addr v) k = if k = addr then v else Memory.read m k := by
  split
  · rename_i h
    rw [h, Memory.read_write_self]
  · rename_i h
    exact Memory.read_write_other m v h

end Sys2Proof.Machine
end

