-- ==== Sys2Proof/Laws/Ops.lean ====
section
/-! SUPPORT. What each shared operation can do, once: when it succeeds, what it answers and what it leaves. -/

namespace Sys2Proof.Machine

/-- A sequence of two operations succeeds exactly if both do. -/
theorem bind_eq_ok {ε α β : Type} {x : Except ε α} {f : α → Except ε β} {b : β} :
    (x >>= f) = .ok b ↔ ∃ a, x = .ok a ∧ f a = .ok b := by
  cases x with
  | error e => simp [bind, Except.bind]
  | ok a => simp [bind, Except.bind]

@[simp] theorem ok_bind {ε α β : Type} (a : α) (f : α → Except ε β) : ((.ok a : Except ε α) >>= f) = f a := rfl

@[simp] theorem error_bind {ε α β : Type} (e : ε) (f : α → Except ε β) :
    ((.error e : Except ε α) >>= f) = .error e := rfl

@[simp] theorem pure_eq_ok {ε α : Type} (a : α) : (pure a : Except ε α) = .ok a := rfl

/-- An instruction ends in a next state exactly if its operations succeed. -/
@[simp] theorem complete_eq_next {x : Except Refusal State} {t : State} : complete x = .next t ↔ x = .ok t := by
  cases x <;> simp [complete]

/-- No shared operation ends in a fault (60_exceptions.md R600). -/
@[simp] theorem complete_ne_fault (x : Except Refusal State) (e : Fault) : complete x ≠ .fault e := by
  cases x <;> simp [complete]

/-! What an access may do depends on the parameters alone. -/

theorem isIo_of_cfg {s t : State} (h : t.cfg = s.cfg) (a : Addr) : t.isIo a = s.isIo a := by
  rw [State.isIo, State.isIo, h]

theorem readable_of_cfg {s t : State} (h : t.cfg = s.cfg) (a : Addr) : t.readable a = s.readable a := by
  simp only [State.readable, State.isIo, State.region, h]

theorem writable_of_cfg {s t : State} (h : t.cfg = s.cfg) (a : Addr) : t.writable a = s.writable a := by
  simp only [State.writable, State.isIo, State.region, h]

/-- What can be written can be read. -/
theorem readable_of_writable {s : State} {a : Addr} (h : s.writable a = true) : s.readable a = true := by
  revert h
  simp only [State.writable, State.readable]
  cases s.isIo a <;> cases s.region a <;> cases s.cfg.unusablePolicy <;> decide

/-- The direct page depends on the PSW alone (20_memory.md R68). -/
theorem dp_of_psw {s t : State} (h : t.psw = s.psw) (d : Byte) : t.dp d = s.dp d := by
  rw [State.dp, State.dp, State.flag, State.flag, h]

@[simp] theorem isIo_afterRead (s : State) (a b : Addr) : (s.afterRead a).isIo b = s.isIo b :=
  isIo_of_cfg (afterRead_cfg s a) b
@[simp] theorem isIo_afterWrite (s : State) (a b : Addr) (v : Byte) : (s.afterWrite a v).isIo b = s.isIo b :=
  isIo_of_cfg (afterWrite_cfg s a v) b
@[simp] theorem readable_afterRead (s : State) (a b : Addr) : (s.afterRead a).readable b = s.readable b :=
  readable_of_cfg (afterRead_cfg s a) b
@[simp] theorem readable_afterWrite (s : State) (a b : Addr) (v : Byte) :
    (s.afterWrite a v).readable b = s.readable b :=
  readable_of_cfg (afterWrite_cfg s a v) b
@[simp] theorem writable_afterRead (s : State) (a b : Addr) : (s.afterRead a).writable b = s.writable b :=
  writable_of_cfg (afterRead_cfg s a) b
@[simp] theorem writable_afterWrite (s : State) (a b : Addr) (v : Byte) :
    (s.afterWrite a v).writable b = s.writable b :=
  writable_of_cfg (afterWrite_cfg s a v) b
@[simp] theorem dp_afterRead (s : State) (a : Addr) (d : Byte) : (s.afterRead a).dp d = s.dp d :=
  dp_of_psw (afterRead_psw s a) d
@[simp] theorem dp_afterWrite (s : State) (a : Addr) (v d : Byte) : (s.afterWrite a v).dp d = s.dp d :=
  dp_of_psw (afterWrite_psw s a v) d

/-- A byte read depends on the parameters, the count of the environment's answers and memory alone. -/
theorem byteAt_congr {s t : State} (hc : t.cfg = s.cfg) (hr : t.ioReads = s.ioReads) (hm : t.mem = s.mem) (a : Addr) :
    t.byteAt a = s.byteAt a := by
  rw [State.byteAt, State.byteAt, isIo_of_cfg hc, hr, hm]

/-- Two states with the same parameters, answers and memory answer the next read alike too. -/
theorem byteAt_afterRead_congr {s t : State} (hc : t.cfg = s.cfg) (hr : t.ioReads = s.ioReads) (hm : t.mem = s.mem)
    (a b : Addr) : (t.afterRead a).byteAt b = (s.afterRead a).byteAt b :=
  byteAt_congr (by simp [hc]) (by simp [isIo_of_cfg hc, hr]) (by simp [hm]) b

/-! Reads. -/

/-- The state differs from `s` at most in the count of the environment's answers: what reads leave. -/
def IoOnly (s t : State) : Prop := t = { s with ioReads := t.ioReads }

theorem IoOnly.refl (s : State) : IoOnly s s := rfl

theorem IoOnly.trans {s t u : State} (h1 : IoOnly s t) (h2 : IoOnly t u) : IoOnly s u := by
  unfold IoOnly at *
  rw [h2, h1]

theorem IoOnly.cfg {s t : State} (h : IoOnly s t) : t.cfg = s.cfg := by rw [h]
theorem IoOnly.psw {s t : State} (h : IoOnly s t) : t.psw = s.psw := by rw [h]
theorem IoOnly.mem {s t : State} (h : IoOnly s t) : t.mem = s.mem := by rw [h]
theorem IoOnly.a {s t : State} (h : IoOnly s t) : t.a = s.a := by rw [h]
theorem IoOnly.x {s t : State} (h : IoOnly s t) : t.x = s.x := by rw [h]
theorem IoOnly.y {s t : State} (h : IoOnly s t) : t.y = s.y := by rw [h]
theorem IoOnly.sp {s t : State} (h : IoOnly s t) : t.sp = s.sp := by rw [h]
theorem IoOnly.pc {s t : State} (h : IoOnly s t) : t.pc = s.pc := by rw [h]

theorem afterRead_ioOnly (s : State) (a : Addr) : IoOnly s (s.afterRead a) := by
  unfold State.afterRead
  split <;> rfl

/-- A read succeeds exactly at a readable address, answers its byte and counts an answer of the environment. -/
theorem readByte_eq_ok {a : Addr} {s t : State} {v : Byte} :
    readByte a s = .ok (v, t) ↔ s.readable a = true ∧ v = s.byteAt a ∧ t = s.afterRead a := by
  unfold readByte
  split
  · rename_i h
    simp only [h, Except.ok.injEq, Prod.mk.injEq, true_and]
    exact and_congr eq_comm eq_comm
  · rename_i h
    simp [h]

theorem readByte_of_readable {a : Addr} {s : State} (h : s.readable a = true) :
    readByte a s = .ok (s.byteAt a, s.afterRead a) := by
  rw [readByte, if_pos h]

theorem readByte_ioOnly {a : Addr} {s t : State} {v : Byte} (h : readByte a s = .ok (v, t)) : IoOnly s t := by
  obtain ⟨-, -, rfl⟩ := readByte_eq_ok.mp h
  exact afterRead_ioOnly s a

/-- A word read is two byte reads, the low byte first (20_memory.md R81). -/
theorem readWord_eq_ok {a : Addr} {s t : State} {w : Word} :
    readWord a s = .ok (w, t) ↔ s.readable a = true ∧ s.readable (a + 1) = true ∧
      w = mkWord ((s.afterRead a).byteAt (a + 1)) (s.byteAt a) ∧ t = (s.afterRead a).afterRead (a + 1) := by
  simp only [readWord, bind_eq_ok, Prod.exists, readByte_eq_ok, pure_eq_ok, Except.ok.injEq, Prod.mk.injEq]
  constructor
  · rintro ⟨lo, s1, ⟨h1, rfl, rfl⟩, hi, s2, ⟨h2, rfl, rfl⟩, rfl, rfl⟩
    exact ⟨h1, by rwa [readable_of_cfg (afterRead_cfg s a)] at h2, rfl, rfl⟩
  · rintro ⟨h1, h2, rfl, rfl⟩
    exact ⟨_, _, ⟨h1, rfl, rfl⟩, _, _, ⟨by rwa [readable_of_cfg (afterRead_cfg s a)], rfl, rfl⟩, rfl, rfl⟩

theorem readWord_ioOnly {a : Addr} {s t : State} {w : Word} (h : readWord a s = .ok (w, t)) : IoOnly s t := by
  obtain ⟨-, -, -, rfl⟩ := readWord_eq_ok.mp h
  exact (afterRead_ioOnly s a).trans (afterRead_ioOnly _ _)

/-- A direct-page word read is two byte reads inside the direct page (20_memory.md R80). -/
theorem readWordDP_eq_ok {d : Byte} {s t : State} {w : Word} :
    readWordDP d s = .ok (w, t) ↔ s.readable (s.dp d) = true ∧ s.readable (s.dp (d + 1)) = true ∧
      w = mkWord ((s.afterRead (s.dp d)).byteAt (s.dp (d + 1))) (s.byteAt (s.dp d)) ∧
      t = (s.afterRead (s.dp d)).afterRead (s.dp (d + 1)) := by
  have hd : ∀ a, (s.afterRead a).dp (d + 1) = s.dp (d + 1) := fun a => dp_of_psw (afterRead_psw s a) _
  simp only [readWordDP, bind_eq_ok, Prod.exists, readByte_eq_ok, pure_eq_ok, Except.ok.injEq, Prod.mk.injEq]
  constructor
  · rintro ⟨lo, s1, ⟨h1, rfl, rfl⟩, hi, s2, ⟨h2, rfl, rfl⟩, rfl, rfl⟩
    rw [hd] at h2 ⊢
    exact ⟨h1, by rwa [readable_of_cfg (afterRead_cfg s _)] at h2, rfl, rfl⟩
  · rintro ⟨h1, h2, rfl, rfl⟩
    refine ⟨_, _, ⟨h1, rfl, rfl⟩, _, _, ⟨?_, rfl, rfl⟩, ?_⟩
    · rwa [hd, readable_of_cfg (afterRead_cfg s _)]
    · rw [hd]
      exact ⟨rfl, rfl⟩

theorem readWordDP_ioOnly {d : Byte} {s t : State} {w : Word} (h : readWordDP d s = .ok (w, t)) : IoOnly s t := by
  obtain ⟨-, -, -, rfl⟩ := readWordDP_eq_ok.mp h
  exact (afterRead_ioOnly s _).trans (afterRead_ioOnly _ _)

/-! Writes. -/

/-- The state differs from `s` at most in memory and in the record of what was written to IO_REGION. -/
def MemOnly (s t : State) : Prop := t = { s with mem := t.mem, ioLog := t.ioLog }

theorem MemOnly.trans {s t u : State} (h1 : MemOnly s t) (h2 : MemOnly t u) : MemOnly s u := by
  unfold MemOnly at *
  rw [h2, h1]

theorem afterWrite_memOnly (s : State) (a : Addr) (v : Byte) : MemOnly s (s.afterWrite a v) := by
  unfold State.afterWrite
  split <;> rfl

/-- A write succeeds exactly at a writable address. -/
theorem writeByte_eq_ok {a : Addr} {v : Byte} {s t : State} :
    writeByte a v s = .ok t ↔ s.writable a = true ∧ t = s.afterWrite a v := by
  unfold writeByte
  split
  · rename_i h
    simp only [h, Except.ok.injEq, true_and]
    exact eq_comm
  · rename_i h
    split <;> simp [h]

theorem writeByte_of_writable {a : Addr} {v : Byte} {s : State} (h : s.writable a = true) :
    writeByte a v s = .ok (s.afterWrite a v) := by
  rw [writeByte, if_pos h]

/-- A direct-page word write is two byte writes inside the direct page, the low byte first (20_memory.md R80). -/
theorem writeWordDP_eq_ok {d : Byte} {w : Word} {s t : State} :
    writeWordDP d w s = .ok t ↔ s.writable (s.dp d) = true ∧ s.writable (s.dp (d + 1)) = true ∧
      t = (s.afterWrite (s.dp d) (loByte w)).afterWrite (s.dp (d + 1)) (hiByte w) := by
  have hd : ∀ a v, (s.afterWrite a v).dp (d + 1) = s.dp (d + 1) := fun a v => dp_of_psw (afterWrite_psw s a v) _
  simp only [writeWordDP, bind_eq_ok, writeByte_eq_ok]
  constructor
  · rintro ⟨s1, ⟨h1, rfl⟩, h2, rfl⟩
    rw [hd] at h2 ⊢
    exact ⟨h1, by rwa [writable_of_cfg (afterWrite_cfg s _ _)] at h2, rfl⟩
  · rintro ⟨h1, h2, rfl⟩
    refine ⟨_, ⟨h1, rfl⟩, ?_, ?_⟩
    · rwa [hd, writable_of_cfg (afterWrite_cfg s _ _)]
    · rw [hd]

/-- A write keeps the canonical form of memory. -/
theorem afterWrite_wf (s : State) (a : Addr) (v : Byte) (h : s.mem.wf = true) : (s.afterWrite a v).mem.wf = true := by
  rw [afterWrite_mem]
  split
  · exact h
  · exact Memory.write_wf v h a.isLt

/-! The stack. -/

/-- A push stores at the stack address and decrements SP (20_memory.md R83). -/
theorem push8_eq_ok {v : Byte} {s t : State} :
    push8 v s = .ok t ↔ s.writable (stackAddr s.sp) = true ∧
      t = { s.afterWrite (stackAddr s.sp) v with sp := s.sp - 1 } := by
  simp only [push8, bind_eq_ok, writeByte_eq_ok, pure_eq_ok, Except.ok.injEq]
  constructor
  · rintro ⟨s1, ⟨h1, rfl⟩, rfl⟩
    exact ⟨h1, by simp⟩
  · rintro ⟨h1, rfl⟩
    exact ⟨_, ⟨h1, rfl⟩, by simp⟩

/-- A pop increments SP and reads at the new stack address (20_memory.md R84). -/
theorem pop8_eq_ok {v : Byte} {s t : State} :
    pop8 s = .ok (v, t) ↔ s.readable (stackAddr (s.sp + 1)) = true ∧ v = s.byteAt (stackAddr (s.sp + 1)) ∧
      t = { s.afterRead (stackAddr (s.sp + 1)) with sp := s.sp + 1 } := by
  have h : ∀ a, ({ s with sp := s.sp + 1 } : State).afterRead a = { s.afterRead a with sp := s.sp + 1 } := by
    intro a
    unfold State.afterRead State.isIo
    dsimp only
    split <;> rfl
  rw [pop8, readByte_eq_ok, h]
  exact Iff.rfl

end Sys2Proof.Machine
end

