-- ==== Sys2Proof/Laws/Decode.lean ====
section
/-! SUPPORT. What decoding and fetching can do. -/

namespace Sys2Proof

/-- Every code selects a row of the table (30_encoding.md R119). -/
theorem rowOf_isSome (code : Byte) : (rowOf code).isSome = true := by
  have h : ∀ n : Fin 256, (rowOf (BitVec.ofFin n)).isSome = true := by decide +kernel
  exact h code.toFin

/-- A length is 1, 2 or 3 (30_encoding.md R100). -/
theorem layout_length (l : Layout) : l.length = 1 ∨ l.length = 2 ∨ l.length = 3 := by
  cases l <;> simp [Layout.length]

theorem encodeWord_eq (code : Byte) (w : Word) : encodeWord code w = [code, Machine.loByte w, Machine.hiByte w] := rfl

namespace Machine

/-- An operand byte is read or not; nothing changes but the count of the environment's answers. -/
theorem operandByte_ioOnly {included : Bool} {a : Addr} {s t : State} {v : Byte}
    (h : operandByte included a s = .ok (v, t)) : IoOnly s t := by
  cases included with
  | true => exact readByte_ioOnly h
  | false => cases h; rfl

/-- A fetch reads and moves pc; it changes nothing else but the count of the environment's answers
(30_encoding.md R101). -/
theorem fetch_frame {s t : State} {i : Instr} (h : fetch s = .ok (i, t)) :
    t = { s with pc := t.pc, ioReads := t.ioReads } := by
  obtain ⟨⟨code, s1⟩, h1, h2⟩ := bind_eq_ok.mp h
  have i1 := readByte_ioOnly h1
  dsimp only at h2
  split at h2
  · cases h2
  · obtain ⟨⟨op1, s2⟩, h3, h4⟩ := bind_eq_ok.mp h2
    obtain ⟨⟨op2, s3⟩, h5, h6⟩ := bind_eq_ok.mp h4
    have i2 := operandByte_ioOnly h3
    have i3 := operandByte_ioOnly h5
    cases h6
    rw [(i1.trans i2).trans i3]

end Machine

end Sys2Proof
end

