-- ==== Sys2Proof/Laws/Operands.lean ====
section
/-! SUPPORT. What the operand forms can do: an effective address or an operand is read without changing anything but
the count of the environment's answers. -/

namespace Sys2Proof.Machine

/-- Computing an effective address changes nothing but the count of the environment's answers
(20_memory.md R69 to R79). -/
theorem ea_ioOnly {m : Mode} {s t : State} {a : Addr} (h : ea m s = .ok (a, t)) : IoOnly s t := by
  cases m with
  | indDpX d => exact readWordDP_ioOnly h
  | indDpPlusY d =>
    obtain ⟨⟨w, u⟩, h1, h2⟩ := bind_eq_ok.mp h
    cases h2
    exact readWordDP_ioOnly h1
  | _ => cases h; rfl

/-- Reading a memory operand changes nothing but the count of the environment's answers. -/
theorem readMode_ioOnly {m : Mode} {s t : State} {v : Byte} (h : readMode m s = .ok (v, t)) : IoOnly s t := by
  obtain ⟨⟨a, u⟩, h1, h2⟩ := bind_eq_ok.mp h
  exact (ea_ioOnly h1).trans (readByte_ioOnly h2)

/-- Reading a source operand changes nothing but the count of the environment's answers. -/
theorem readOperand_ioOnly {o : Operand} {s t : State} {v : Byte} (h : readOperand o s = .ok (v, t)) : IoOnly s t := by
  cases o with
  | imm b => cases h; rfl
  | mem m => exact readMode_ioOnly h

/-- What a load can do. -/
theorem loadReg_eq_next {r : Reg} {o : Operand} {s t : State} :
    loadReg r o s = .next t ↔ ∃ m s1, readOperand o s = .ok (m, s1) ∧ t = setNZ8 m (s1.setReg r m) := by
  simp only [loadReg, complete_eq_next, bind_eq_ok, Prod.exists, pure_eq_ok, Except.ok.injEq, eq_comm (a := t)]

/-- What a store can do. -/
theorem storeReg_eq_next {m : Mode} {r : Reg} {s t : State} :
    storeReg m r s = .next t ↔ ∃ a s1, ea m s = .ok (a, s1) ∧ s1.writable a = true ∧
      t = s1.afterWrite a (s1.reg r) := by
  simp only [storeReg, complete_eq_next, bind_eq_ok, Prod.exists, writeByte_eq_ok]

/-- What an operation into A can do. -/
theorem operateA_eq_next {op : Byte → Byte → State → Byte × State} {o : Operand} {s t : State} :
    operateA op o s = .next t ↔ ∃ m s1, readOperand o s = .ok (m, s1) ∧
      t = { (op s1.a m s1).2 with a := (op s1.a m s1).1 } := by
  simp only [operateA, complete_eq_next, bind_eq_ok, Prod.exists, pure_eq_ok, Except.ok.injEq, eq_comm (a := t)]

/-- What an operation into memory can do. -/
theorem operateMem_eq_next {op : Byte → Byte → State → Byte × State} {dst : Mode} {src : Operand} {s t : State} :
    operateMem op dst src s = .next t ↔ ∃ m s1 a s2, readOperand src s = .ok (m, s1) ∧ ea dst s1 = .ok (a, s2) ∧
      s2.readable a = true ∧ (op (s2.byteAt a) m (s2.afterRead a)).2.writable a = true ∧
      t = (op (s2.byteAt a) m (s2.afterRead a)).2.afterWrite a (op (s2.byteAt a) m (s2.afterRead a)).1 := by
  simp only [operateMem, complete_eq_next, bind_eq_ok, Prod.exists, readByte_eq_ok, writeByte_eq_ok]
  constructor
  · rintro ⟨m, s1, h1, a, s2, h2, d, s3, ⟨h3, rfl, rfl⟩, h4, rfl⟩
    exact ⟨m, s1, a, s2, h1, h2, h3, h4, rfl⟩
  · rintro ⟨m, s1, a, s2, h1, h2, h3, h4, rfl⟩
    exact ⟨m, s1, h1, a, s2, h2, _, _, ⟨h3, rfl, rfl⟩, h4, rfl⟩

/-- What a comparison of a register can do. -/
theorem compareReg_eq_next {r : Reg} {o : Operand} {s t : State} :
    compareReg r o s = .next t ↔ ∃ m s1, readOperand o s = .ok (m, s1) ∧ t = cmp8 (s1.reg r) m s1 := by
  simp only [compareReg, complete_eq_next, bind_eq_ok, Prod.exists, pure_eq_ok, Except.ok.injEq, eq_comm (a := t)]

/-- What a comparison of a memory operand can do. -/
theorem compareMem_eq_next {dst : Mode} {src : Operand} {s t : State} :
    compareMem dst src s = .next t ↔ ∃ m s1 d s2, readOperand src s = .ok (m, s1) ∧ readMode dst s1 = .ok (d, s2) ∧
      t = cmp8 d m s2 := by
  simp only [compareMem, complete_eq_next, bind_eq_ok, Prod.exists, pure_eq_ok, Except.ok.injEq]
  constructor
  · rintro ⟨m, s1, h1, d, s2, h2, rfl⟩
    exact ⟨m, s1, d, s2, h1, h2, rfl⟩
  · rintro ⟨m, s1, d, s2, h1, h2, rfl⟩
    exact ⟨m, s1, h1, d, s2, h2, rfl⟩

/-- What a read-modify-write of memory can do. -/
theorem modifyMem_eq_next {op : Byte → State → Byte × State} {m : Mode} {s t : State} :
    modifyMem op m s = .next t ↔ ∃ a s1, ea m s = .ok (a, s1) ∧ s1.readable a = true ∧
      (op (s1.byteAt a) (s1.afterRead a)).2.writable a = true ∧
      t = (op (s1.byteAt a) (s1.afterRead a)).2.afterWrite a (op (s1.byteAt a) (s1.afterRead a)).1 := by
  simp only [modifyMem, complete_eq_next, bind_eq_ok, Prod.exists, readByte_eq_ok, writeByte_eq_ok]
  constructor
  · rintro ⟨a, s1, h1, d, s2, ⟨h2, rfl, rfl⟩, h3, rfl⟩
    exact ⟨a, s1, h1, h2, h3, rfl⟩
  · rintro ⟨a, s1, h1, h2, h3, rfl⟩
    exact ⟨a, s1, h1, _, _, ⟨h2, rfl, rfl⟩, h3, rfl⟩

/-- What a carry-bit command can do. -/
theorem carryBit_eq_next {f : Bool → Bool → Bool} {addr : Addr} {bit : Nat} {s t : State} :
    carryBit f addr bit s = .next t ↔ s.readable addr = true ∧
      t = (s.afterRead addr).setFlag .c (f ((s.afterRead addr).flag .c) (testBit8 (s.byteAt addr) bit)) := by
  simp only [carryBit, complete_eq_next, bind_eq_ok, Prod.exists, readByte_eq_ok, pure_eq_ok, Except.ok.injEq]
  constructor
  · rintro ⟨m, s1, ⟨h1, rfl, rfl⟩, rfl⟩
    exact ⟨h1, rfl⟩
  · rintro ⟨h1, rfl⟩
    exact ⟨_, _, ⟨h1, rfl, rfl⟩, rfl⟩

/-- What a branch on a byte can do. -/
theorem branchOnByte_eq_next {test : Byte → State → Bool} {m : Mode} {rel : Byte} {s t : State} :
    branchOnByte test m rel s = .next t ↔ ∃ v s1, readMode m s = .ok (v, s1) ∧ t = s1.branchIf (test v s1) rel := by
  simp only [branchOnByte, complete_eq_next, bind_eq_ok, Prod.exists, pure_eq_ok, Except.ok.injEq, eq_comm (a := t)]

/-- What an operation on YA can do. -/
theorem operateYa_eq_next {op : Word → Word → State → Word × State} {d : Byte} {s t : State} :
    operateYa op d s = .next t ↔ ∃ w s1, readWordDP d s = .ok (w, s1) ∧
      t = (op s1.ya w s1).2.setYa (op s1.ya w s1).1 := by
  simp only [operateYa, complete_eq_next, bind_eq_ok, Prod.exists, pure_eq_ok, Except.ok.injEq, eq_comm (a := t)]

/-- What a read-modify-write of a direct-page word can do. -/
theorem modifyWordDP_eq_next {f : Word → Word} {d : Byte} {s t : State} :
    modifyWordDP f d s = .next t ↔ ∃ w s1 s2, readWordDP d s = .ok (w, s1) ∧ writeWordDP d (f w) s1 = .ok s2 ∧
      t = setNZ16 (f w) s2 := by
  simp only [modifyWordDP, complete_eq_next, bind_eq_ok, Prod.exists, pure_eq_ok, Except.ok.injEq]
  constructor
  · rintro ⟨w, s1, h1, s2, h2, rfl⟩
    exact ⟨w, s1, s2, h1, h2, rfl⟩
  · rintro ⟨w, s1, s2, h1, h2, rfl⟩
    exact ⟨w, s1, h1, s2, h2, rfl⟩

end Sys2Proof.Machine
end

