-- ==== Sys2Proof/Laws/PerInstr.lean ====
section
/-! SUPPORT. Statements made of each instruction: the encoding has the length that the table gives the instruction
(30_encoding.md R101). -/

namespace Sys2Proof.Laws

/-- The encoding of the instruction has its length. -/
def EncodedLength.Statement (i : Instr) : Prop := (encode i).length = i.length

theorem EncodedLength.movAImm (imm : Byte) : EncodedLength.Statement (.movAImm imm) := rfl
theorem EncodedLength.movAIndX : EncodedLength.Statement (.movAIndX) := rfl
theorem EncodedLength.movAIndXInc : EncodedLength.Statement (.movAIndXInc) := rfl
theorem EncodedLength.movADp (d : Byte) : EncodedLength.Statement (.movADp d) := rfl
theorem EncodedLength.movADpPlusX (d : Byte) : EncodedLength.Statement (.movADpPlusX d) := rfl
theorem EncodedLength.movAAbs (addr : Addr) : EncodedLength.Statement (.movAAbs addr) := rfl
theorem EncodedLength.movAAbsPlusX (addr : Addr) : EncodedLength.Statement (.movAAbsPlusX addr) := rfl
theorem EncodedLength.movAAbsPlusY (addr : Addr) : EncodedLength.Statement (.movAAbsPlusY addr) := rfl
theorem EncodedLength.movAIndDpX (d : Byte) : EncodedLength.Statement (.movAIndDpX d) := rfl
theorem EncodedLength.movAIndDpPlusY (d : Byte) : EncodedLength.Statement (.movAIndDpPlusY d) := rfl
theorem EncodedLength.movXImm (imm : Byte) : EncodedLength.Statement (.movXImm imm) := rfl
theorem EncodedLength.movXDp (d : Byte) : EncodedLength.Statement (.movXDp d) := rfl
theorem EncodedLength.movXDpPlusY (d : Byte) : EncodedLength.Statement (.movXDpPlusY d) := rfl
theorem EncodedLength.movXAbs (addr : Addr) : EncodedLength.Statement (.movXAbs addr) := rfl
theorem EncodedLength.movYImm (imm : Byte) : EncodedLength.Statement (.movYImm imm) := rfl
theorem EncodedLength.movYDp (d : Byte) : EncodedLength.Statement (.movYDp d) := rfl
theorem EncodedLength.movYDpPlusX (d : Byte) : EncodedLength.Statement (.movYDpPlusX d) := rfl
theorem EncodedLength.movYAbs (addr : Addr) : EncodedLength.Statement (.movYAbs addr) := rfl
theorem EncodedLength.movIndXA : EncodedLength.Statement (.movIndXA) := rfl
theorem EncodedLength.movIndXIncA : EncodedLength.Statement (.movIndXIncA) := rfl
theorem EncodedLength.movDpA (d : Byte) : EncodedLength.Statement (.movDpA d) := rfl
theorem EncodedLength.movDpPlusXA (d : Byte) : EncodedLength.Statement (.movDpPlusXA d) := rfl
theorem EncodedLength.movAbsA (addr : Addr) : EncodedLength.Statement (.movAbsA addr) := rfl
theorem EncodedLength.movAbsPlusXA (addr : Addr) : EncodedLength.Statement (.movAbsPlusXA addr) := rfl
theorem EncodedLength.movAbsPlusYA (addr : Addr) : EncodedLength.Statement (.movAbsPlusYA addr) := rfl
theorem EncodedLength.movIndDpXA (d : Byte) : EncodedLength.Statement (.movIndDpXA d) := rfl
theorem EncodedLength.movIndDpPlusYA (d : Byte) : EncodedLength.Statement (.movIndDpPlusYA d) := rfl
theorem EncodedLength.movDpX (d : Byte) : EncodedLength.Statement (.movDpX d) := rfl
theorem EncodedLength.movDpPlusYX (d : Byte) : EncodedLength.Statement (.movDpPlusYX d) := rfl
theorem EncodedLength.movAbsX (addr : Addr) : EncodedLength.Statement (.movAbsX addr) := rfl
theorem EncodedLength.movDpY (d : Byte) : EncodedLength.Statement (.movDpY d) := rfl
theorem EncodedLength.movDpPlusXY (d : Byte) : EncodedLength.Statement (.movDpPlusXY d) := rfl
theorem EncodedLength.movAbsY (addr : Addr) : EncodedLength.Statement (.movAbsY addr) := rfl
theorem EncodedLength.movAX : EncodedLength.Statement (.movAX) := rfl
theorem EncodedLength.movAY : EncodedLength.Statement (.movAY) := rfl
theorem EncodedLength.movXA : EncodedLength.Statement (.movXA) := rfl
theorem EncodedLength.movYA : EncodedLength.Statement (.movYA) := rfl
theorem EncodedLength.movXSp : EncodedLength.Statement (.movXSp) := rfl
theorem EncodedLength.movSpX : EncodedLength.Statement (.movSpX) := rfl
theorem EncodedLength.movDpDp (dst : Byte) (src : Byte) : EncodedLength.Statement (.movDpDp dst src) := rfl
theorem EncodedLength.movDpImm (d : Byte) (imm : Byte) : EncodedLength.Statement (.movDpImm d imm) := rfl
theorem EncodedLength.adcAImm (imm : Byte) : EncodedLength.Statement (.adcAImm imm) := rfl
theorem EncodedLength.adcAIndX : EncodedLength.Statement (.adcAIndX) := rfl
theorem EncodedLength.adcADp (d : Byte) : EncodedLength.Statement (.adcADp d) := rfl
theorem EncodedLength.adcADpPlusX (d : Byte) : EncodedLength.Statement (.adcADpPlusX d) := rfl
theorem EncodedLength.adcAAbs (addr : Addr) : EncodedLength.Statement (.adcAAbs addr) := rfl
theorem EncodedLength.adcAAbsPlusX (addr : Addr) : EncodedLength.Statement (.adcAAbsPlusX addr) := rfl
theorem EncodedLength.adcAAbsPlusY (addr : Addr) : EncodedLength.Statement (.adcAAbsPlusY addr) := rfl
theorem EncodedLength.adcAIndDpX (d : Byte) : EncodedLength.Statement (.adcAIndDpX d) := rfl
theorem EncodedLength.adcAIndDpPlusY (d : Byte) : EncodedLength.Statement (.adcAIndDpPlusY d) := rfl
theorem EncodedLength.adcIndXIndY : EncodedLength.Statement (.adcIndXIndY) := rfl
theorem EncodedLength.adcDpDp (dst : Byte) (src : Byte) : EncodedLength.Statement (.adcDpDp dst src) := rfl
theorem EncodedLength.adcDpImm (d : Byte) (imm : Byte) : EncodedLength.Statement (.adcDpImm d imm) := rfl
theorem EncodedLength.sbcAImm (imm : Byte) : EncodedLength.Statement (.sbcAImm imm) := rfl
theorem EncodedLength.sbcAIndX : EncodedLength.Statement (.sbcAIndX) := rfl
theorem EncodedLength.sbcADp (d : Byte) : EncodedLength.Statement (.sbcADp d) := rfl
theorem EncodedLength.sbcADpPlusX (d : Byte) : EncodedLength.Statement (.sbcADpPlusX d) := rfl
theorem EncodedLength.sbcAAbs (addr : Addr) : EncodedLength.Statement (.sbcAAbs addr) := rfl
theorem EncodedLength.sbcAAbsPlusX (addr : Addr) : EncodedLength.Statement (.sbcAAbsPlusX addr) := rfl
theorem EncodedLength.sbcAAbsPlusY (addr : Addr) : EncodedLength.Statement (.sbcAAbsPlusY addr) := rfl
theorem EncodedLength.sbcAIndDpX (d : Byte) : EncodedLength.Statement (.sbcAIndDpX d) := rfl
theorem EncodedLength.sbcAIndDpPlusY (d : Byte) : EncodedLength.Statement (.sbcAIndDpPlusY d) := rfl
theorem EncodedLength.sbcIndXIndY : EncodedLength.Statement (.sbcIndXIndY) := rfl
theorem EncodedLength.sbcDpDp (dst : Byte) (src : Byte) : EncodedLength.Statement (.sbcDpDp dst src) := rfl
theorem EncodedLength.sbcDpImm (d : Byte) (imm : Byte) : EncodedLength.Statement (.sbcDpImm d imm) := rfl
theorem EncodedLength.cmpAImm (imm : Byte) : EncodedLength.Statement (.cmpAImm imm) := rfl
theorem EncodedLength.cmpAIndX : EncodedLength.Statement (.cmpAIndX) := rfl
theorem EncodedLength.cmpADp (d : Byte) : EncodedLength.Statement (.cmpADp d) := rfl
theorem EncodedLength.cmpADpPlusX (d : Byte) : EncodedLength.Statement (.cmpADpPlusX d) := rfl
theorem EncodedLength.cmpAAbs (addr : Addr) : EncodedLength.Statement (.cmpAAbs addr) := rfl
theorem EncodedLength.cmpAAbsPlusX (addr : Addr) : EncodedLength.Statement (.cmpAAbsPlusX addr) := rfl
theorem EncodedLength.cmpAAbsPlusY (addr : Addr) : EncodedLength.Statement (.cmpAAbsPlusY addr) := rfl
theorem EncodedLength.cmpAIndDpX (d : Byte) : EncodedLength.Statement (.cmpAIndDpX d) := rfl
theorem EncodedLength.cmpAIndDpPlusY (d : Byte) : EncodedLength.Statement (.cmpAIndDpPlusY d) := rfl
theorem EncodedLength.cmpIndXIndY : EncodedLength.Statement (.cmpIndXIndY) := rfl
theorem EncodedLength.cmpDpDp (dst : Byte) (src : Byte) : EncodedLength.Statement (.cmpDpDp dst src) := rfl
theorem EncodedLength.cmpDpImm (d : Byte) (imm : Byte) : EncodedLength.Statement (.cmpDpImm d imm) := rfl
theorem EncodedLength.cmpXImm (imm : Byte) : EncodedLength.Statement (.cmpXImm imm) := rfl
theorem EncodedLength.cmpXDp (d : Byte) : EncodedLength.Statement (.cmpXDp d) := rfl
theorem EncodedLength.cmpXAbs (addr : Addr) : EncodedLength.Statement (.cmpXAbs addr) := rfl
theorem EncodedLength.cmpYImm (imm : Byte) : EncodedLength.Statement (.cmpYImm imm) := rfl
theorem EncodedLength.cmpYDp (d : Byte) : EncodedLength.Statement (.cmpYDp d) := rfl
theorem EncodedLength.cmpYAbs (addr : Addr) : EncodedLength.Statement (.cmpYAbs addr) := rfl
theorem EncodedLength.andAImm (imm : Byte) : EncodedLength.Statement (.andAImm imm) := rfl
theorem EncodedLength.andAIndX : EncodedLength.Statement (.andAIndX) := rfl
theorem EncodedLength.andADp (d : Byte) : EncodedLength.Statement (.andADp d) := rfl
theorem EncodedLength.andADpPlusX (d : Byte) : EncodedLength.Statement (.andADpPlusX d) := rfl
theorem EncodedLength.andAAbs (addr : Addr) : EncodedLength.Statement (.andAAbs addr) := rfl
theorem EncodedLength.andAAbsPlusX (addr : Addr) : EncodedLength.Statement (.andAAbsPlusX addr) := rfl
theorem EncodedLength.andAAbsPlusY (addr : Addr) : EncodedLength.Statement (.andAAbsPlusY addr) := rfl
theorem EncodedLength.andAIndDpX (d : Byte) : EncodedLength.Statement (.andAIndDpX d) := rfl
theorem EncodedLength.andAIndDpPlusY (d : Byte) : EncodedLength.Statement (.andAIndDpPlusY d) := rfl
theorem EncodedLength.andIndXIndY : EncodedLength.Statement (.andIndXIndY) := rfl
theorem EncodedLength.andDpDp (dst : Byte) (src : Byte) : EncodedLength.Statement (.andDpDp dst src) := rfl
theorem EncodedLength.andDpImm (d : Byte) (imm : Byte) : EncodedLength.Statement (.andDpImm d imm) := rfl
theorem EncodedLength.orAImm (imm : Byte) : EncodedLength.Statement (.orAImm imm) := rfl
theorem EncodedLength.orAIndX : EncodedLength.Statement (.orAIndX) := rfl
theorem EncodedLength.orADp (d : Byte) : EncodedLength.Statement (.orADp d) := rfl
theorem EncodedLength.orADpPlusX (d : Byte) : EncodedLength.Statement (.orADpPlusX d) := rfl
theorem EncodedLength.orAAbs (addr : Addr) : EncodedLength.Statement (.orAAbs addr) := rfl
theorem EncodedLength.orAAbsPlusX (addr : Addr) : EncodedLength.Statement (.orAAbsPlusX addr) := rfl
theorem EncodedLength.orAAbsPlusY (addr : Addr) : EncodedLength.Statement (.orAAbsPlusY addr) := rfl
theorem EncodedLength.orAIndDpX (d : Byte) : EncodedLength.Statement (.orAIndDpX d) := rfl
theorem EncodedLength.orAIndDpPlusY (d : Byte) : EncodedLength.Statement (.orAIndDpPlusY d) := rfl
theorem EncodedLength.orIndXIndY : EncodedLength.Statement (.orIndXIndY) := rfl
theorem EncodedLength.orDpDp (dst : Byte) (src : Byte) : EncodedLength.Statement (.orDpDp dst src) := rfl
theorem EncodedLength.orDpImm (d : Byte) (imm : Byte) : EncodedLength.Statement (.orDpImm d imm) := rfl
theorem EncodedLength.eorAImm (imm : Byte) : EncodedLength.Statement (.eorAImm imm) := rfl
theorem EncodedLength.eorAIndX : EncodedLength.Statement (.eorAIndX) := rfl
theorem EncodedLength.eorADp (d : Byte) : EncodedLength.Statement (.eorADp d) := rfl
theorem EncodedLength.eorADpPlusX (d : Byte) : EncodedLength.Statement (.eorADpPlusX d) := rfl
theorem EncodedLength.eorAAbs (addr : Addr) : EncodedLength.Statement (.eorAAbs addr) := rfl
theorem EncodedLength.eorAAbsPlusX (addr : Addr) : EncodedLength.Statement (.eorAAbsPlusX addr) := rfl
theorem EncodedLength.eorAAbsPlusY (addr : Addr) : EncodedLength.Statement (.eorAAbsPlusY addr) := rfl
theorem EncodedLength.eorAIndDpX (d : Byte) : EncodedLength.Statement (.eorAIndDpX d) := rfl
theorem EncodedLength.eorAIndDpPlusY (d : Byte) : EncodedLength.Statement (.eorAIndDpPlusY d) := rfl
theorem EncodedLength.eorIndXIndY : EncodedLength.Statement (.eorIndXIndY) := rfl
theorem EncodedLength.eorDpDp (dst : Byte) (src : Byte) : EncodedLength.Statement (.eorDpDp dst src) := rfl
theorem EncodedLength.eorDpImm (d : Byte) (imm : Byte) : EncodedLength.Statement (.eorDpImm d imm) := rfl
theorem EncodedLength.incA : EncodedLength.Statement (.incA) := rfl
theorem EncodedLength.incDp (d : Byte) : EncodedLength.Statement (.incDp d) := rfl
theorem EncodedLength.incDpPlusX (d : Byte) : EncodedLength.Statement (.incDpPlusX d) := rfl
theorem EncodedLength.incAbs (addr : Addr) : EncodedLength.Statement (.incAbs addr) := rfl
theorem EncodedLength.incX : EncodedLength.Statement (.incX) := rfl
theorem EncodedLength.incY : EncodedLength.Statement (.incY) := rfl
theorem EncodedLength.decA : EncodedLength.Statement (.decA) := rfl
theorem EncodedLength.decDp (d : Byte) : EncodedLength.Statement (.decDp d) := rfl
theorem EncodedLength.decDpPlusX (d : Byte) : EncodedLength.Statement (.decDpPlusX d) := rfl
theorem EncodedLength.decAbs (addr : Addr) : EncodedLength.Statement (.decAbs addr) := rfl
theorem EncodedLength.decX : EncodedLength.Statement (.decX) := rfl
theorem EncodedLength.decY : EncodedLength.Statement (.decY) := rfl
theorem EncodedLength.aslA : EncodedLength.Statement (.aslA) := rfl
theorem EncodedLength.aslDp (d : Byte) : EncodedLength.Statement (.aslDp d) := rfl
theorem EncodedLength.aslDpPlusX (d : Byte) : EncodedLength.Statement (.aslDpPlusX d) := rfl
theorem EncodedLength.aslAbs (addr : Addr) : EncodedLength.Statement (.aslAbs addr) := rfl
theorem EncodedLength.lsrA : EncodedLength.Statement (.lsrA) := rfl
theorem EncodedLength.lsrDp (d : Byte) : EncodedLength.Statement (.lsrDp d) := rfl
theorem EncodedLength.lsrDpPlusX (d : Byte) : EncodedLength.Statement (.lsrDpPlusX d) := rfl
theorem EncodedLength.lsrAbs (addr : Addr) : EncodedLength.Statement (.lsrAbs addr) := rfl
theorem EncodedLength.rolA : EncodedLength.Statement (.rolA) := rfl
theorem EncodedLength.rolDp (d : Byte) : EncodedLength.Statement (.rolDp d) := rfl
theorem EncodedLength.rolDpPlusX (d : Byte) : EncodedLength.Statement (.rolDpPlusX d) := rfl
theorem EncodedLength.rolAbs (addr : Addr) : EncodedLength.Statement (.rolAbs addr) := rfl
theorem EncodedLength.rorA : EncodedLength.Statement (.rorA) := rfl
theorem EncodedLength.rorDp (d : Byte) : EncodedLength.Statement (.rorDp d) := rfl
theorem EncodedLength.rorDpPlusX (d : Byte) : EncodedLength.Statement (.rorDpPlusX d) := rfl
theorem EncodedLength.rorAbs (addr : Addr) : EncodedLength.Statement (.rorAbs addr) := rfl
theorem EncodedLength.xcnA : EncodedLength.Statement (.xcnA) := rfl
theorem EncodedLength.movwYaDp (d : Byte) : EncodedLength.Statement (.movwYaDp d) := rfl
theorem EncodedLength.movwDpYa (d : Byte) : EncodedLength.Statement (.movwDpYa d) := rfl
theorem EncodedLength.incwDp (d : Byte) : EncodedLength.Statement (.incwDp d) := rfl
theorem EncodedLength.decwDp (d : Byte) : EncodedLength.Statement (.decwDp d) := rfl
theorem EncodedLength.addwYaDp (d : Byte) : EncodedLength.Statement (.addwYaDp d) := rfl
theorem EncodedLength.subwYaDp (d : Byte) : EncodedLength.Statement (.subwYaDp d) := rfl
theorem EncodedLength.cmpwYaDp (d : Byte) : EncodedLength.Statement (.cmpwYaDp d) := rfl
theorem EncodedLength.mulYa : EncodedLength.Statement (.mulYa) := rfl
theorem EncodedLength.divYaX : EncodedLength.Statement (.divYaX) := rfl
theorem EncodedLength.daaA : EncodedLength.Statement (.daaA) := rfl
theorem EncodedLength.dasA : EncodedLength.Statement (.dasA) := rfl
theorem EncodedLength.bra (rel : Byte) : EncodedLength.Statement (.bra rel) := rfl
theorem EncodedLength.beq (rel : Byte) : EncodedLength.Statement (.beq rel) := rfl
theorem EncodedLength.bne (rel : Byte) : EncodedLength.Statement (.bne rel) := rfl
theorem EncodedLength.bcs (rel : Byte) : EncodedLength.Statement (.bcs rel) := rfl
theorem EncodedLength.bcc (rel : Byte) : EncodedLength.Statement (.bcc rel) := rfl
theorem EncodedLength.bvs (rel : Byte) : EncodedLength.Statement (.bvs rel) := rfl
theorem EncodedLength.bvc (rel : Byte) : EncodedLength.Statement (.bvc rel) := rfl
theorem EncodedLength.bmi (rel : Byte) : EncodedLength.Statement (.bmi rel) := rfl
theorem EncodedLength.bpl (rel : Byte) : EncodedLength.Statement (.bpl rel) := rfl
theorem EncodedLength.bbs (bit : Nat) (d : Byte) (rel : Byte) : EncodedLength.Statement (.bbs bit d rel) := rfl
theorem EncodedLength.bbc (bit : Nat) (d : Byte) (rel : Byte) : EncodedLength.Statement (.bbc bit d rel) := rfl
theorem EncodedLength.cbneDp (d : Byte) (rel : Byte) : EncodedLength.Statement (.cbneDp d rel) := rfl
theorem EncodedLength.cbneDpPlusX (d : Byte) (rel : Byte) : EncodedLength.Statement (.cbneDpPlusX d rel) := rfl
theorem EncodedLength.dbnzDp (d : Byte) (rel : Byte) : EncodedLength.Statement (.dbnzDp d rel) := rfl
theorem EncodedLength.dbnzY (rel : Byte) : EncodedLength.Statement (.dbnzY rel) := rfl
theorem EncodedLength.jmpAbs (addr : Addr) : EncodedLength.Statement (.jmpAbs addr) := rfl
theorem EncodedLength.jmpIndAbsPlusX (addr : Addr) : EncodedLength.Statement (.jmpIndAbsPlusX addr) := rfl
theorem EncodedLength.callAbs (addr : Addr) : EncodedLength.Statement (.callAbs addr) := rfl
theorem EncodedLength.pcall (upage : Byte) : EncodedLength.Statement (.pcall upage) := rfl
theorem EncodedLength.tcall (n : Nat) : EncodedLength.Statement (.tcall n) := rfl
theorem EncodedLength.brk : EncodedLength.Statement (.brk) := rfl
theorem EncodedLength.ret : EncodedLength.Statement (.ret) := rfl
theorem EncodedLength.ret1 : EncodedLength.Statement (.ret1) := rfl
theorem EncodedLength.pushA : EncodedLength.Statement (.pushA) := rfl
theorem EncodedLength.pushX : EncodedLength.Statement (.pushX) := rfl
theorem EncodedLength.pushY : EncodedLength.Statement (.pushY) := rfl
theorem EncodedLength.pushPsw : EncodedLength.Statement (.pushPsw) := rfl
theorem EncodedLength.popA : EncodedLength.Statement (.popA) := rfl
theorem EncodedLength.popX : EncodedLength.Statement (.popX) := rfl
theorem EncodedLength.popY : EncodedLength.Statement (.popY) := rfl
theorem EncodedLength.popPsw : EncodedLength.Statement (.popPsw) := rfl
theorem EncodedLength.set1 (bit : Nat) (d : Byte) : EncodedLength.Statement (.set1 bit d) := rfl
theorem EncodedLength.clr1 (bit : Nat) (d : Byte) : EncodedLength.Statement (.clr1 bit d) := rfl
theorem EncodedLength.tset1Abs (addr : Addr) : EncodedLength.Statement (.tset1Abs addr) := rfl
theorem EncodedLength.tclr1Abs (addr : Addr) : EncodedLength.Statement (.tclr1Abs addr) := rfl
theorem EncodedLength.and1CMem (addr : Addr) (bit : Nat) : EncodedLength.Statement (.and1CMem addr bit) := rfl
theorem EncodedLength.and1CNotMem (addr : Addr) (bit : Nat) : EncodedLength.Statement (.and1CNotMem addr bit) := rfl
theorem EncodedLength.or1CMem (addr : Addr) (bit : Nat) : EncodedLength.Statement (.or1CMem addr bit) := rfl
theorem EncodedLength.or1CNotMem (addr : Addr) (bit : Nat) : EncodedLength.Statement (.or1CNotMem addr bit) := rfl
theorem EncodedLength.eor1CMem (addr : Addr) (bit : Nat) : EncodedLength.Statement (.eor1CMem addr bit) := rfl
theorem EncodedLength.not1Mem (addr : Addr) (bit : Nat) : EncodedLength.Statement (.not1Mem addr bit) := rfl
theorem EncodedLength.mov1CMem (addr : Addr) (bit : Nat) : EncodedLength.Statement (.mov1CMem addr bit) := rfl
theorem EncodedLength.mov1MemC (addr : Addr) (bit : Nat) : EncodedLength.Statement (.mov1MemC addr bit) := rfl
theorem EncodedLength.clrc : EncodedLength.Statement (.clrc) := rfl
theorem EncodedLength.setc : EncodedLength.Statement (.setc) := rfl
theorem EncodedLength.notc : EncodedLength.Statement (.notc) := rfl
theorem EncodedLength.clrv : EncodedLength.Statement (.clrv) := rfl
theorem EncodedLength.clrp : EncodedLength.Statement (.clrp) := rfl
theorem EncodedLength.setp : EncodedLength.Statement (.setp) := rfl
theorem EncodedLength.ei : EncodedLength.Statement (.ei) := rfl
theorem EncodedLength.di : EncodedLength.Statement (.di) := rfl
theorem EncodedLength.nop : EncodedLength.Statement (.nop) := rfl
theorem EncodedLength.sleep : EncodedLength.Statement (.sleep) := rfl
theorem EncodedLength.stop : EncodedLength.Statement (.stop) := rfl

end Sys2Proof.Laws
end

