-- ==== Sys2Proof/Laws/Safety.lean ====
section
/-! SUPPORT. The terms of claims met by the shared operations: what a sequence of writes stores, and what the flag
functions write, in the words of Safety.lean. -/

namespace Sys2Proof.Machine

/-! Stores -/

theorem stores_nil {s t : State} (hm : t.mem = s.mem) (hl : t.ioLog = s.ioLog) : Stores [] s t := by
  refine ⟨by simp [hl], by simp, ?_⟩
  intro k _
  rw [hm]

/-- One more write, at an address not stored to yet. -/
theorem Stores.snoc {l : List (Addr × Byte)} {s t u : State} {b : Addr} {w : Byte} (h : Stores l s t)
    (hb : ∀ c ∈ l, c.1 ≠ b) (hc : t.cfg = s.cfg) (hm : u.mem = (t.afterWrite b w).mem)
    (hl : u.ioLog = (t.afterWrite b w).ioLog) : Stores (l ++ [(b, w)]) s u := by
  obtain ⟨h1, h2, h3⟩ := h
  have hio : t.isIo b = s.isIo b := isIo_of_cfg hc b
  have hread : ∀ k, (s.isIo b = false → b.toNat ≠ k) → Memory.read u.mem k = Memory.read t.mem k := by
    intro k hk
    rw [hm, afterWrite_mem, hio]
    cases hb' : s.isIo b with
    | true => rfl
    | false => exact Memory.read_write_other _ _ (Ne.symm (hk hb'))
  refine ⟨?_, ?_, ?_⟩
  · rw [hl, afterWrite_ioLog, hio, List.filter_append, List.map_append]
    cases hb' : s.isIo b <;> simp [h1, hb']
  · intro c hcm hci
    rcases List.mem_append.mp hcm with hcl | hcl
    · rw [hread _ (fun _ he => hb c hcl (BitVec.eq_of_toNat_eq he.symm))]
      exact h2 c hcl hci
    · obtain rfl : c = (b, w) := by simpa using hcl
      rw [hm, afterWrite_mem, hio, hci]
      exact Memory.read_write_self _ _ _
  · intro k hk
    rw [hread k (fun hbi => hk (b, w) (by simp) hbi)]
    exact h3 k (fun c hcl => hk c (by simp [hcl]))

/-- What one write stores. -/
theorem stores_one {s t u : State} {a : Addr} {v : Byte} (hc : t.cfg = s.cfg) (hm : t.mem = s.mem)
    (hl : t.ioLog = s.ioLog) (hum : u.mem = (t.afterWrite a v).mem) (hul : u.ioLog = (t.afterWrite a v).ioLog) :
    Stores [(a, v)] s u :=
  (stores_nil hm hl).snoc (by simp) hc hum hul

/-! Flags -/

theorem flagsKept_of {fs : List Flag} {s s1 t u : State} (hs : s1.psw = s.psw) (hu : u.psw = t.psw)
    (h : FlagsKept fs s1 t) : FlagsKept fs s u := by
  intro f hf
  rw [flag_congr hu, flag_congr hs.symm]
  exact h f hf

theorem byte_msb (v : Byte) : v.msb = testBit8 v 7 := BitVec.msb_eq_getLsbD_last v

theorem word_msb (w : Word) : w.msb = w.getLsbD 15 := BitVec.msb_eq_getLsbD_last w

theorem isNZ8_of {v : Byte} {s s1 u : State} (hs : s1.psw = s.psw) (hu : u.psw = (setNZ8 v s1).psw) :
    IsNZ8 v s u := by
  refine ⟨⟨?_, ?_⟩, ?_⟩
  · rw [flag_congr hu, flag_setNZ8, ← byte_msb]
    rfl
  · rw [flag_congr hu, flag_setNZ8]
    rfl
  · refine flagsKept_of hs hu ?_
    intro f hf
    cases f <;> simp_all

theorem isNZ16_of {w : Word} {s s1 u : State} (hs : s1.psw = s.psw) (hu : u.psw = (setNZ16 w s1).psw) :
    NZOf16 w u ∧ FlagsKept [.n, .z] s u := by
  refine ⟨⟨?_, ?_⟩, ?_⟩
  · rw [flag_congr hu, flag_setNZ16, ← word_msb]
    rfl
  · rw [flag_congr hu, flag_setNZ16]
    rfl
  · refine flagsKept_of hs hu ?_
    intro f hf
    cases f <;> simp_all

theorem isAdc8_of {a m : Byte} {s s1 u : State} (hs : s1.psw = s.psw) (hu : u.psw = (adc8 a m s1).2.psw) :
    IsAdc8 a m s u (adc8 a m s1).1 := by
  have hc : s.flag .c = s1.flag .c := flag_congr hs.symm .c
  refine ⟨?_, ?_, ?_, ?_, ⟨?_, ?_⟩, ?_⟩
  · simp [adc8, hc]
  · rw [flag_congr hu, adc8_flag, hc]; rfl
  · rw [flag_congr hu, adc8_flag, hc]; rfl
  · rw [flag_congr hu, adc8_flag, ← byte_msb, ← byte_msb, ← byte_msb]; rfl
  · rw [flag_congr hu, adc8_flag, ← byte_msb]; rfl
  · rw [flag_congr hu, adc8_flag]; rfl
  · refine flagsKept_of hs hu ?_
    intro f hf
    rw [adc8_flag]
    cases f <;> simp_all

theorem isSbc8_of {a m : Byte} {s s1 u : State} (hs : s1.psw = s.psw) (hu : u.psw = (sbc8 a m s1).2.psw) :
    IsSbc8 a m s u (sbc8 a m s1).1 := by
  have hc : s.flag .c = s1.flag .c := flag_congr hs.symm .c
  have ha := a.isLt
  have hm := m.isLt
  refine ⟨?_, ?_, ?_, ?_, ⟨?_, ?_⟩, ?_⟩
  · rw [hc]
    cases h : s1.flag .c <;> (simp [sbc8, h]; omega)
  · rw [flag_congr hu, sbc8_flag, hc]
    cases h : s1.flag .c <;> simp <;> omega
  · rw [flag_congr hu, sbc8_flag, hc]
    cases h : s1.flag .c <;> simp <;> omega
  · rw [flag_congr hu, sbc8_flag, ← byte_msb, ← byte_msb, ← byte_msb]; rfl
  · rw [flag_congr hu, sbc8_flag, ← byte_msb]; rfl
  · rw [flag_congr hu, sbc8_flag]; rfl
  · refine flagsKept_of hs hu ?_
    intro f hf
    rw [sbc8_flag]
    cases f <;> simp_all

theorem isCmp8_of {a m : Byte} {s s1 u : State} (hs : s1.psw = s.psw) (hu : u.psw = (cmp8 a m s1).psw) :
    IsCmp8 a m s u := by
  refine ⟨?_, ⟨?_, ?_⟩, ?_, ?_⟩
  · rw [flag_congr hu, cmp8_flag]; rfl
  · rw [flag_congr hu, cmp8_flag, ← byte_msb]; rfl
  · rw [flag_congr hu, cmp8_flag]; rfl
  · have h0 : a - m = 0 ↔ a = m := by bv_omega
    rw [flag_congr hu, cmp8_flag]
    exact decide_eq_decide.mpr h0
  · refine flagsKept_of hs hu ?_
    intro f hf
    rw [cmp8_flag]
    cases f <;> simp_all

/-- The flags of a shift: N and Z of the result after C took the bit shifted out. -/
theorem isShift8_of {r : Byte} {out : Bool} {s s1 u : State} (hs : s1.psw = s.psw)
    (hu : u.psw = (setNZ8 r (s1.setFlag .c out)).psw) : IsShift8 r out s u := by
  refine ⟨⟨?_, ?_⟩, ?_, ?_⟩
  · rw [flag_congr hu, flag_setNZ8, ← byte_msb]; rfl
  · rw [flag_congr hu, flag_setNZ8]; rfl
  · rw [flag_congr hu]
    simp
  · refine flagsKept_of hs hu ?_
    intro f hf
    cases f <;> simp_all

end Sys2Proof.Machine
end

