-- ==== Sys2Proof/Laws/Stack.lean ====
section
/-! SUPPORT. What the stack operations can do: pushing and popping the program counter, entering and leaving the BRK
handler (20_memory.md R83 to R85, 47_call_stack.md R473, R475). -/

namespace Sys2Proof.Machine

theorem stackAddr_inj {a b : Byte} : stackAddr a = stackAddr b ↔ a = b := by
  simp [stackAddr, mkWord_inj]

/-- A stack address is 0100 + SP (10_state.md R28). -/
theorem stackAddr_toNat (sp : Byte) : (stackAddr sp).toNat = 0x0100 + sp.toNat := by
  rw [stackAddr, mkWord_toNat]
  rfl

/-- A push as an update of the state. -/
theorem push8_of_writable {s : State} {v : Byte} (h : s.writable (stackAddr s.sp) = true) :
    push8 v s = .ok { s.afterWrite (stackAddr s.sp) v with sp := s.sp - 1 } :=
  push8_eq_ok.mpr ⟨h, rfl⟩

/-- A pop as an update of the state. -/
theorem pop8_of_readable {s : State} (h : s.readable (stackAddr (s.sp + 1)) = true) :
    pop8 s = .ok (s.byteAt (stackAddr (s.sp + 1)),
      { s with sp := s.sp + 1, ioReads := (s.afterRead (stackAddr (s.sp + 1))).ioReads }) := by
  rw [pop8_eq_ok]
  refine ⟨h, rfl, ?_⟩
  rw [afterRead_ioOnly s]

/-- Pushing pc succeeds exactly if both slots can be written, and stores PCH, then PCL (20_memory.md R85). -/
theorem pushPc_eq_ok {s t : State} :
    pushPc s = .ok t ↔ s.writable (stackAddr s.sp) = true ∧ s.writable (stackAddr (s.sp - 1)) = true ∧
      t = { (s.afterWrite (stackAddr s.sp) (hiByte s.pc)).afterWrite (stackAddr (s.sp - 1)) (loByte s.pc) with
        sp := s.sp - 2 } := by
  have e : s.sp - 1#8 - 1#8 = s.sp - 2#8 := by bv_omega
  simp only [pushPc, bind_eq_ok, push8_eq_ok]
  constructor
  · rintro ⟨u, ⟨h1, rfl⟩, h2, rfl⟩
    refine ⟨h1, (writable_of_cfg (by simp) _).symm.trans h2, ?_⟩
    apply State.ext <;> simp [e, State.isIo]
  · rintro ⟨h1, h2, rfl⟩
    refine ⟨_, ⟨h1, rfl⟩, (writable_of_cfg (by simp) _).trans h2, ?_⟩
    apply State.ext <;> simp [e, State.isIo]

/-- Pushing pc, as what it stores. -/
theorem pushPc_stores {s : State} (h1 : s.writable (stackAddr s.sp) = true)
    (h2 : s.writable (stackAddr (s.sp - 1)) = true) :
    ∃ u, pushPc s = .ok u ∧ u = { s with sp := s.sp - 2, mem := u.mem, ioLog := u.ioLog } ∧
      Stores [(stackAddr s.sp, hiByte s.pc), (stackAddr (s.sp - 1), loByte s.pc)] s u := by
  refine ⟨_, pushPc_eq_ok.mpr ⟨h1, h2, rfl⟩, ?_, ?_⟩
  · apply State.ext <;> simp
  · have hne : stackAddr s.sp ≠ stackAddr (s.sp - 1) := fun h => by
      have := stackAddr_inj.mp h
      bv_omega
    exact (stores_one (s := s) (t := s) (u := s.afterWrite (stackAddr s.sp) (hiByte s.pc)) rfl rfl rfl rfl rfl).snoc
      (by simpa using hne) (by simp) rfl rfl

/-- Popping pc succeeds exactly if both slots can be read, and reads PCL, then PCH (20_memory.md R85). -/
theorem popPc_eq_ok {s t : State} {p q : Addr} (hp : p = stackAddr (s.sp + 1)) (hq : q = stackAddr (s.sp + 2)) :
    popPc s = .ok t ↔ s.readable p = true ∧ s.readable q = true ∧
      t = { s with
        sp := s.sp + 2, pc := mkWord ((s.afterRead p).byteAt q) (s.byteAt p),
        ioReads := ((s.afterRead p).afterRead q).ioReads } := by
  have e : s.sp + 1 + 1 = s.sp + 2 := by bv_omega
  simp only [popPc, bind_eq_ok, Prod.exists, pop8_eq_ok, pure_eq_ok, Except.ok.injEq]
  constructor
  · rintro ⟨lo, u, ⟨h1, rfl, rfl⟩, hi, w, ⟨h2, rfl, rfl⟩, rfl⟩
    simp only [e, ← hp, ← hq] at h1 h2 ⊢
    refine ⟨h1, (readable_of_cfg (by simp) _).symm.trans h2, ?_⟩
    apply State.ext <;> first | rfl | simp [State.isIo]
  · rintro ⟨h1, h2, rfl⟩
    refine ⟨_, _, ⟨hp ▸ h1, rfl, rfl⟩, _, _, ⟨?_, rfl, rfl⟩, ?_⟩
    · simp only [e, ← hp, ← hq]
      exact (readable_of_cfg (by simp) _).trans h2
    · simp only [e, ← hp, ← hq]
      apply State.ext <;> first | rfl | simp [State.isIo]

/-- Entering the BRK handler: what is pushed and what the PSW becomes, before the vector is read
(47_call_stack.md R473). -/
theorem enterBreak_stores {s : State} (h1 : s.writable (stackAddr s.sp) = true)
    (h2 : s.writable (stackAddr (s.sp - 1)) = true) (h3 : s.writable (stackAddr (s.sp - 2)) = true) :
    ∃ u, u = { s with sp := s.sp - 3, psw := u.psw, mem := u.mem, ioLog := u.ioLog } ∧
      u.psw = ((s.setFlag .b true).setFlag .i false).psw ∧
      Stores [(stackAddr s.sp, hiByte s.pc), (stackAddr (s.sp - 1), loByte s.pc), (stackAddr (s.sp - 2), s.psw)] s u ∧
      enterBreak s = (do let (target, t) ← readWord s.cfg.brkVector u; return { t with pc := target }) := by
  obtain ⟨u, e1, e2, e3⟩ := pushPc_stores h1 h2
  have hc : u.cfg = s.cfg := by rw [e2]
  have hsp : u.sp = s.sp - 2 := by rw [e2]
  have hpsw : u.psw = s.psw := by rw [e2]
  have e4 : push8 u.psw u = .ok { u.afterWrite (stackAddr u.sp) u.psw with sp := u.sp - 1 } :=
    push8_of_writable (by rw [writable_of_cfg hc, hsp]; exact h3)
  have hn1 : s.sp ≠ s.sp - 2#8 := by bv_omega
  have hn2 : s.sp - 1#8 ≠ s.sp - 2#8 := by bv_omega
  have hn3 : s.sp - 2 - 1 = s.sp - 3 := by bv_omega
  let w : State := { u.afterWrite (stackAddr u.sp) u.psw with sp := u.sp - 1 }
  refine ⟨(w.setFlag .b true).setFlag .i false, ?_, ?_, ?_, ?_⟩
  · have hn3' : s.sp - 2#8 - 1#8 = s.sp - 3#8 := hn3
    apply State.ext <;> simp [w, hsp, hn3'] <;> rw [e2]
  · simp [w, hpsw]
  · have := e3.snoc (b := stackAddr u.sp) (w := u.psw) (u := (w.setFlag .b true).setFlag .i false)
      (by simp [hsp, stackAddr_inj, hn1, hn2]) hc (by simp [w]) (by simp [w])
    simpa [hsp, hpsw] using this
  · simp only [enterBreak, e1, ok_bind, e4]
    have : ((w.setFlag .b true).setFlag .i false).cfg = s.cfg := by simp [w, hc]
    rw [← this]

/-- Leaving the BRK handler: the PSW, PCL, PCH (47_call_stack.md R475). -/
theorem leaveBreak_eq_ok {s t : State} {p q r : Addr} (hp : p = stackAddr (s.sp + 1)) (hq : q = stackAddr (s.sp + 2))
    (hr : r = stackAddr (s.sp + 3)) :
    leaveBreak s = .ok t ↔ s.readable p = true ∧ s.readable q = true ∧ s.readable r = true ∧
      t = { s with
        sp := s.sp + 3, psw := s.byteAt p,
        pc := mkWord (((s.afterRead p).afterRead q).byteAt r) ((s.afterRead p).byteAt q),
        ioReads := (((s.afterRead p).afterRead q).afterRead r).ioReads } := by
  have e2 : s.sp + 1 + 1 = s.sp + 2 := by bv_omega
  have e3 : s.sp + 1 + 2 = s.sp + 3 := by bv_omega
  simp only [leaveBreak, bind_eq_ok, Prod.exists, pop8_eq_ok, ← hp]
  let w : State := { s.afterRead p with sp := s.sp + 1, psw := s.byteAt p }
  have hw := popPc_eq_ok (s := w) (t := t) (p := q) (q := r) (by rw [hq, ← e2]) (by rw [hr, ← e3])
  have hrq : w.readable q = s.readable q := readable_of_cfg (by simp [w]) q
  have hrr : w.readable r = s.readable r := readable_of_cfg (by simp [w]) r
  have hst : ({ w with
      sp := w.sp + 2, pc := mkWord ((w.afterRead q).byteAt r) (w.byteAt q),
      ioReads := ((w.afterRead q).afterRead r).ioReads } : State) = { s with
        sp := s.sp + 3, psw := s.byteAt p,
        pc := mkWord (((s.afterRead p).afterRead q).byteAt r) ((s.afterRead p).byteAt q),
        ioReads := (((s.afterRead p).afterRead q).afterRead r).ioReads } := by
    have hb1 : w.byteAt q = (s.afterRead p).byteAt q := byteAt_congr rfl rfl rfl q
    have hb2 : (w.afterRead q).byteAt r = ((s.afterRead p).afterRead q).byteAt r :=
      byteAt_afterRead_congr (s := s.afterRead p) (t := w) rfl rfl rfl q r
    have e3' : s.sp + 1#8 + 2#8 = s.sp + 3#8 := e3
    rw [hb1, hb2]
    apply State.ext <;> first | rfl | simp [w, e3', State.isIo]
  rw [hrq, hrr, hst] at hw
  constructor
  · rintro ⟨v, u, ⟨h1, rfl, rfl⟩, h2⟩
    exact ⟨h1, hw.mp h2⟩
  · rintro ⟨h1, h2⟩
    exact ⟨_, _, ⟨h1, rfl, rfl⟩, hw.mpr h2⟩

end Sys2Proof.Machine
end

