-- ==== Sys2Proof/Machine/Timing.lean ====
section
/-! DEFINITION. The cycle counts printed in the command tables (70_reset_and_hazards.md R712). They are timing only: no
state holds time and nothing of the machine reads this table (log 33). -/

namespace Sys2Proof.Machine

/-- The printed cycle counts: when no branch is taken, and when one is; equal for every command that is no conditional
branch (R712, R713). -/
def cycles : Instr → Nat × Nat
  | .movAImm _ => (2, 2)
  | .movAIndX => (3, 3)
  | .movAIndXInc => (4, 4)
  | .movADp _ => (3, 3)
  | .movADpPlusX _ => (4, 4)
  | .movAAbs _ => (4, 4)
  | .movAAbsPlusX _ => (5, 5)
  | .movAAbsPlusY _ => (5, 5)
  | .movAIndDpX _ => (6, 6)
  | .movAIndDpPlusY _ => (6, 6)
  | .movXImm _ => (2, 2)
  | .movXDp _ => (3, 3)
  | .movXDpPlusY _ => (4, 4)
  | .movXAbs _ => (4, 4)
  | .movYImm _ => (2, 2)
  | .movYDp _ => (3, 3)
  | .movYDpPlusX _ => (4, 4)
  | .movYAbs _ => (4, 4)
  | .movIndXA => (4, 4)
  | .movIndXIncA => (4, 4)
  | .movDpA _ => (4, 4)
  | .movDpPlusXA _ => (5, 5)
  | .movAbsA _ => (5, 5)
  | .movAbsPlusXA _ => (6, 6)
  | .movAbsPlusYA _ => (6, 6)
  | .movIndDpXA _ => (7, 7)
  | .movIndDpPlusYA _ => (7, 7)
  | .movDpX _ => (4, 4)
  | .movDpPlusYX _ => (5, 5)
  | .movAbsX _ => (5, 5)
  | .movDpY _ => (4, 4)
  | .movDpPlusXY _ => (5, 5)
  | .movAbsY _ => (5, 5)
  | .movAX => (2, 2)
  | .movAY => (2, 2)
  | .movXA => (2, 2)
  | .movYA => (2, 2)
  | .movXSp => (2, 2)
  | .movSpX => (2, 2)
  | .movDpDp _ _ => (5, 5)
  | .movDpImm _ _ => (5, 5)
  | .adcAImm _ => (2, 2)
  | .adcAIndX => (3, 3)
  | .adcADp _ => (3, 3)
  | .adcADpPlusX _ => (4, 4)
  | .adcAAbs _ => (4, 4)
  | .adcAAbsPlusX _ => (5, 5)
  | .adcAAbsPlusY _ => (5, 5)
  | .adcAIndDpX _ => (6, 6)
  | .adcAIndDpPlusY _ => (6, 6)
  | .adcIndXIndY => (5, 5)
  | .adcDpDp _ _ => (6, 6)
  | .adcDpImm _ _ => (5, 5)
  | .sbcAImm _ => (2, 2)
  | .sbcAIndX => (3, 3)
  | .sbcADp _ => (3, 3)
  | .sbcADpPlusX _ => (4, 4)
  | .sbcAAbs _ => (4, 4)
  | .sbcAAbsPlusX _ => (5, 5)
  | .sbcAAbsPlusY _ => (5, 5)
  | .sbcAIndDpX _ => (6, 6)
  | .sbcAIndDpPlusY _ => (6, 6)
  | .sbcIndXIndY => (5, 5)
  | .sbcDpDp _ _ => (6, 6)
  | .sbcDpImm _ _ => (5, 5)
  | .cmpAImm _ => (2, 2)
  | .cmpAIndX => (3, 3)
  | .cmpADp _ => (3, 3)
  | .cmpADpPlusX _ => (4, 4)
  | .cmpAAbs _ => (4, 4)
  | .cmpAAbsPlusX _ => (5, 5)
  | .cmpAAbsPlusY _ => (5, 5)
  | .cmpAIndDpX _ => (6, 6)
  | .cmpAIndDpPlusY _ => (6, 6)
  | .cmpIndXIndY => (5, 5)
  | .cmpDpDp _ _ => (6, 6)
  | .cmpDpImm _ _ => (5, 5)
  | .cmpXImm _ => (2, 2)
  | .cmpXDp _ => (3, 3)
  | .cmpXAbs _ => (4, 4)
  | .cmpYImm _ => (2, 2)
  | .cmpYDp _ => (3, 3)
  | .cmpYAbs _ => (4, 4)
  | .andAImm _ => (2, 2)
  | .andAIndX => (3, 3)
  | .andADp _ => (3, 3)
  | .andADpPlusX _ => (4, 4)
  | .andAAbs _ => (4, 4)
  | .andAAbsPlusX _ => (5, 5)
  | .andAAbsPlusY _ => (5, 5)
  | .andAIndDpX _ => (6, 6)
  | .andAIndDpPlusY _ => (6, 6)
  | .andIndXIndY => (5, 5)
  | .andDpDp _ _ => (6, 6)
  | .andDpImm _ _ => (5, 5)
  | .orAImm _ => (2, 2)
  | .orAIndX => (3, 3)
  | .orADp _ => (3, 3)
  | .orADpPlusX _ => (4, 4)
  | .orAAbs _ => (4, 4)
  | .orAAbsPlusX _ => (5, 5)
  | .orAAbsPlusY _ => (5, 5)
  | .orAIndDpX _ => (6, 6)
  | .orAIndDpPlusY _ => (6, 6)
  | .orIndXIndY => (5, 5)
  | .orDpDp _ _ => (6, 6)
  | .orDpImm _ _ => (5, 5)
  | .eorAImm _ => (2, 2)
  | .eorAIndX => (3, 3)
  | .eorADp _ => (3, 3)
  | .eorADpPlusX _ => (4, 4)
  | .eorAAbs _ => (4, 4)
  | .eorAAbsPlusX _ => (5, 5)
  | .eorAAbsPlusY _ => (5, 5)
  | .eorAIndDpX _ => (6, 6)
  | .eorAIndDpPlusY _ => (6, 6)
  | .eorIndXIndY => (5, 5)
  | .eorDpDp _ _ => (6, 6)
  | .eorDpImm _ _ => (5, 5)
  | .incA => (2, 2)
  | .incDp _ => (4, 4)
  | .incDpPlusX _ => (5, 5)
  | .incAbs _ => (5, 5)
  | .incX => (2, 2)
  | .incY => (2, 2)
  | .decA => (2, 2)
  | .decDp _ => (4, 4)
  | .decDpPlusX _ => (5, 5)
  | .decAbs _ => (5, 5)
  | .decX => (2, 2)
  | .decY => (2, 2)
  | .aslA => (2, 2)
  | .aslDp _ => (4, 4)
  | .aslDpPlusX _ => (5, 5)
  | .aslAbs _ => (5, 5)
  | .lsrA => (2, 2)
  | .lsrDp _ => (4, 4)
  | .lsrDpPlusX _ => (5, 5)
  | .lsrAbs _ => (5, 5)
  | .rolA => (2, 2)
  | .rolDp _ => (4, 4)
  | .rolDpPlusX _ => (5, 5)
  | .rolAbs _ => (5, 5)
  | .rorA => (2, 2)
  | .rorDp _ => (4, 4)
  | .rorDpPlusX _ => (5, 5)
  | .rorAbs _ => (5, 5)
  | .xcnA => (5, 5)
  | .movwYaDp _ => (5, 5)
  | .movwDpYa _ => (4, 4)
  | .incwDp _ => (6, 6)
  | .decwDp _ => (6, 6)
  | .addwYaDp _ => (5, 5)
  | .subwYaDp _ => (5, 5)
  | .cmpwYaDp _ => (4, 4)
  | .mulYa => (9, 9)
  | .divYaX => (12, 12)
  | .daaA => (3, 3)
  | .dasA => (3, 3)
  | .bra _ => (4, 4)
  | .beq _ => (2, 4)
  | .bne _ => (2, 4)
  | .bcs _ => (2, 4)
  | .bcc _ => (2, 4)
  | .bvs _ => (2, 4)
  | .bvc _ => (2, 4)
  | .bmi _ => (2, 4)
  | .bpl _ => (2, 4)
  | .bbs _ _ _ => (5, 7)
  | .bbc _ _ _ => (5, 7)
  | .cbneDp _ _ => (5, 7)
  | .cbneDpPlusX _ _ => (6, 8)
  | .dbnzDp _ _ => (5, 7)
  | .dbnzY _ => (4, 6)
  | .jmpAbs _ => (3, 3)
  | .jmpIndAbsPlusX _ => (6, 6)
  | .callAbs _ => (8, 8)
  | .pcall _ => (6, 6)
  | .tcall _ => (8, 8)
  | .brk => (8, 8)
  | .ret => (5, 5)
  | .ret1 => (6, 6)
  | .pushA => (4, 4)
  | .pushX => (4, 4)
  | .pushY => (4, 4)
  | .pushPsw => (4, 4)
  | .popA => (4, 4)
  | .popX => (4, 4)
  | .popY => (4, 4)
  | .popPsw => (4, 4)
  | .set1 _ _ => (4, 4)
  | .clr1 _ _ => (4, 4)
  | .tset1Abs _ => (6, 6)
  | .tclr1Abs _ => (6, 6)
  | .and1CMem _ _ => (4, 4)
  | .and1CNotMem _ _ => (4, 4)
  | .or1CMem _ _ => (5, 5)
  | .or1CNotMem _ _ => (5, 5)
  | .eor1CMem _ _ => (5, 5)
  | .not1Mem _ _ => (5, 5)
  | .mov1CMem _ _ => (4, 4)
  | .mov1MemC _ _ => (6, 6)
  | .clrc => (2, 2)
  | .setc => (2, 2)
  | .notc => (3, 3)
  | .clrv => (2, 2)
  | .clrp => (2, 2)
  | .setp => (2, 2)
  | .ei => (3, 3)
  | .di => (3, 3)
  | .nop => (2, 2)
  | .sleep => (3, 3)
  | .stop => (3, 3)

end Sys2Proof.Machine
end

