-- ==== Sys2Proof/Tests/Slice0.lean ====
section
/-! SUPPORT. The model's own tests. Expected results come from the spec: the encodings of the instruction rules, the vectors
of 95_test_vectors.md, the address map of 20_memory.md; and, for every obligation with hypotheses, a state and operands
that meet them all. -/

open Sys2Proof Sys2Proof.Machine

namespace Sys2Proof.Tests

/- The tests elaborate one after another: each evaluates a step in the kernel. -/
set_option Elab.async false

/-! ## Helpers -/

/-- The default start state of the vectors of 95_test_vectors.md. -/
def base : State := { State.reset with a := 0x3C, x := 0x05, y := 0x02, sp := 0xEF, pc := 0x0200 }

/-- The state with the given cells, the ROM's included. -/
def poke (s : State) (cells : List (Nat × Byte)) : State :=
  { s with mem := cells.foldl (fun m c => Memory.write m c.1 c.2) s.mem }

/-- Bytes at ascending addresses. -/
def cellsFrom : Nat → List Byte → List (Nat × Byte)
  | _, [] => []
  | addr, b :: rest => (addr, b) :: cellsFrom (addr + 1) rest

/-- One step answers exactly this state. -/
def stepsTo (s t : State) : Bool :=
  match step s with
  | .next u => decide (u = t)
  | _ => false

/-- With the instruction's bytes at pc and the cells `m`, one step from `s` answers `t` with the cells `m2` written over
them, and nothing else different. -/
def gives (bytes : List Byte) (s : State) (m : List (Nat × Byte)) (t : State) (m2 : List (Nat × Byte)) : Bool :=
  stepsTo (poke (poke s (cellsFrom s.pc.toNat bytes)) m) (poke (poke (poke t (cellsFrom s.pc.toNat bytes)) m) m2)

/-- One step answers a state of which `p` holds. -/
def stepMeets (s : State) (p : State → Bool) : Bool :=
  match step s with
  | .next u => p u
  | _ => false

/-- `exec` answers a next state. -/
def completes (i : Instr) (s : State) : Bool :=
  match exec i s with
  | .next _ => true
  | _ => false

theorem exists_of_stepMeets {s : State} {p : State → Bool} (h : stepMeets s p = true) : ∃ t, step s = .next t := by
  unfold stepMeets at h
  split at h
  · exact ⟨_, by assumption⟩
  · cases h

theorem exists_of_completes {i : Instr} {s : State} (h : completes i s = true) : ∃ t, exec i s = .next t := by
  unfold completes at h
  split at h
  · exact ⟨_, by assumption⟩
  · cases h

/-- Each of the byte lists decodes to its instruction with no byte left, the instruction is well-formed and encodes to
the bytes. -/
def decodesAll (words : List (List Byte × Instr)) : Bool :=
  words.all fun e => decide (decode e.1 = .ok (e.2, [])) && e.2.wf && decide (encode e.2 = e.1)

/-! ## Well-formedness: one ill-formed term for each check, which the check refuses, beside the largest value it admits -/

theorem test_wf_bit_number : (Instr.set1 8 0x10).wf = false ∧ (Instr.set1 7 0x10).wf = true := by decide
theorem test_wf_branch_bit_number : (Instr.bbc 8 0x10 0).wf = false ∧ (Instr.bbc 7 0x10 0).wf = true := by decide
theorem test_wf_call_number : (Instr.tcall 16).wf = false ∧ (Instr.tcall 15).wf = true := by decide
theorem test_wf_mem_bit_address :
    (Instr.and1CMem 0x2000 0).wf = false ∧ (Instr.and1CMem 0x1FFF 7).wf = true := by decide
theorem test_wf_mem_bit_number : (Instr.mov1MemC 0x1FFF 8).wf = false ∧ (Instr.mov1MemC 0 0).wf = true := by decide

/-! ## Every constructor's word, from the line "Encoding" of its rule (operands: inm A5, dp 10, source 20, destination 30,
rel FE, abs 1234, upage C0, bit 5, mem.bit 1234.5, n 9) -/

/-- The encodings of 40_mov8.md. -/
theorem test_decode_mov8 : decodesAll [
  ([0xE8, 0xA5], .movAImm 0xA5), ([0xE6], .movAIndX), ([0xBF], .movAIndXInc), ([0xE4, 0x10], .movADp 0x10),
  ([0xF4, 0x10], .movADpPlusX 0x10), ([0xE5, 0x34, 0x12], .movAAbs 0x1234),
  ([0xF5, 0x34, 0x12], .movAAbsPlusX 0x1234), ([0xF6, 0x34, 0x12], .movAAbsPlusY 0x1234),
  ([0xE7, 0x10], .movAIndDpX 0x10), ([0xF7, 0x10], .movAIndDpPlusY 0x10), ([0xCD, 0xA5], .movXImm 0xA5),
  ([0xF8, 0x10], .movXDp 0x10), ([0xF9, 0x10], .movXDpPlusY 0x10), ([0xE9, 0x34, 0x12], .movXAbs 0x1234),
  ([0x8D, 0xA5], .movYImm 0xA5), ([0xEB, 0x10], .movYDp 0x10), ([0xFB, 0x10], .movYDpPlusX 0x10),
  ([0xEC, 0x34, 0x12], .movYAbs 0x1234), ([0xC6], .movIndXA), ([0xAF], .movIndXIncA), ([0xC4, 0x10], .movDpA 0x10),
  ([0xD4, 0x10], .movDpPlusXA 0x10), ([0xC5, 0x34, 0x12], .movAbsA 0x1234),
  ([0xD5, 0x34, 0x12], .movAbsPlusXA 0x1234), ([0xD6, 0x34, 0x12], .movAbsPlusYA 0x1234),
  ([0xC7, 0x10], .movIndDpXA 0x10), ([0xD7, 0x10], .movIndDpPlusYA 0x10), ([0xD8, 0x10], .movDpX 0x10),
  ([0xD9, 0x10], .movDpPlusYX 0x10), ([0xC9, 0x34, 0x12], .movAbsX 0x1234), ([0xCB, 0x10], .movDpY 0x10),
  ([0xDB, 0x10], .movDpPlusXY 0x10), ([0xCC, 0x34, 0x12], .movAbsY 0x1234), ([0x7D], .movAX), ([0xDD], .movAY),
  ([0x5D], .movXA), ([0xFD], .movYA), ([0x9D], .movXSp), ([0xBD], .movSpX),
  ([0xFA, 0x20, 0x30], .movDpDp 0x30 0x20), ([0x8F, 0xA5, 0x10], .movDpImm 0x10 0xA5)] = true := by decide

/-- The encodings of 41_arith8.md. -/
theorem test_decode_arith8 : decodesAll [
  ([0x88, 0xA5], .adcAImm 0xA5), ([0x86], .adcAIndX), ([0x84, 0x10], .adcADp 0x10),
  ([0x94, 0x10], .adcADpPlusX 0x10), ([0x85, 0x34, 0x12], .adcAAbs 0x1234),
  ([0x95, 0x34, 0x12], .adcAAbsPlusX 0x1234), ([0x96, 0x34, 0x12], .adcAAbsPlusY 0x1234),
  ([0x87, 0x10], .adcAIndDpX 0x10), ([0x97, 0x10], .adcAIndDpPlusY 0x10), ([0x99], .adcIndXIndY),
  ([0x89, 0x20, 0x30], .adcDpDp 0x30 0x20), ([0x98, 0xA5, 0x10], .adcDpImm 0x10 0xA5),
  ([0xA8, 0xA5], .sbcAImm 0xA5), ([0xA6], .sbcAIndX), ([0xA4, 0x10], .sbcADp 0x10),
  ([0xB4, 0x10], .sbcADpPlusX 0x10), ([0xA5, 0x34, 0x12], .sbcAAbs 0x1234),
  ([0xB5, 0x34, 0x12], .sbcAAbsPlusX 0x1234), ([0xB6, 0x34, 0x12], .sbcAAbsPlusY 0x1234),
  ([0xA7, 0x10], .sbcAIndDpX 0x10), ([0xB7, 0x10], .sbcAIndDpPlusY 0x10), ([0xB9], .sbcIndXIndY),
  ([0xA9, 0x20, 0x30], .sbcDpDp 0x30 0x20), ([0xB8, 0xA5, 0x10], .sbcDpImm 0x10 0xA5),
  ([0x68, 0xA5], .cmpAImm 0xA5), ([0x66], .cmpAIndX), ([0x64, 0x10], .cmpADp 0x10),
  ([0x74, 0x10], .cmpADpPlusX 0x10), ([0x65, 0x34, 0x12], .cmpAAbs 0x1234),
  ([0x75, 0x34, 0x12], .cmpAAbsPlusX 0x1234), ([0x76, 0x34, 0x12], .cmpAAbsPlusY 0x1234),
  ([0x67, 0x10], .cmpAIndDpX 0x10), ([0x77, 0x10], .cmpAIndDpPlusY 0x10), ([0x79], .cmpIndXIndY),
  ([0x69, 0x20, 0x30], .cmpDpDp 0x30 0x20), ([0x78, 0xA5, 0x10], .cmpDpImm 0x10 0xA5),
  ([0xC8, 0xA5], .cmpXImm 0xA5), ([0x3E, 0x10], .cmpXDp 0x10), ([0x1E, 0x34, 0x12], .cmpXAbs 0x1234),
  ([0xAD, 0xA5], .cmpYImm 0xA5), ([0x7E, 0x10], .cmpYDp 0x10), ([0x5E, 0x34, 0x12], .cmpYAbs 0x1234)] = true := by decide

/-- The encodings of 42_logic8.md. -/
theorem test_decode_logic8 : decodesAll [
  ([0x28, 0xA5], .andAImm 0xA5), ([0x26], .andAIndX), ([0x24, 0x10], .andADp 0x10),
  ([0x34, 0x10], .andADpPlusX 0x10), ([0x25, 0x34, 0x12], .andAAbs 0x1234),
  ([0x35, 0x34, 0x12], .andAAbsPlusX 0x1234), ([0x36, 0x34, 0x12], .andAAbsPlusY 0x1234),
  ([0x27, 0x10], .andAIndDpX 0x10), ([0x37, 0x10], .andAIndDpPlusY 0x10), ([0x39], .andIndXIndY),
  ([0x29, 0x20, 0x30], .andDpDp 0x30 0x20), ([0x38, 0xA5, 0x10], .andDpImm 0x10 0xA5),
  ([0x08, 0xA5], .orAImm 0xA5), ([0x06], .orAIndX), ([0x04, 0x10], .orADp 0x10), ([0x14, 0x10], .orADpPlusX 0x10),
  ([0x05, 0x34, 0x12], .orAAbs 0x1234), ([0x15, 0x34, 0x12], .orAAbsPlusX 0x1234),
  ([0x16, 0x34, 0x12], .orAAbsPlusY 0x1234), ([0x07, 0x10], .orAIndDpX 0x10), ([0x17, 0x10], .orAIndDpPlusY 0x10),
  ([0x19], .orIndXIndY), ([0x09, 0x20, 0x30], .orDpDp 0x30 0x20), ([0x18, 0xA5, 0x10], .orDpImm 0x10 0xA5),
  ([0x48, 0xA5], .eorAImm 0xA5), ([0x46], .eorAIndX), ([0x44, 0x10], .eorADp 0x10),
  ([0x54, 0x10], .eorADpPlusX 0x10), ([0x45, 0x34, 0x12], .eorAAbs 0x1234),
  ([0x55, 0x34, 0x12], .eorAAbsPlusX 0x1234), ([0x56, 0x34, 0x12], .eorAAbsPlusY 0x1234),
  ([0x47, 0x10], .eorAIndDpX 0x10), ([0x57, 0x10], .eorAIndDpPlusY 0x10), ([0x59], .eorIndXIndY),
  ([0x49, 0x20, 0x30], .eorDpDp 0x30 0x20), ([0x58, 0xA5, 0x10], .eorDpImm 0x10 0xA5)] = true := by decide

/-- The encodings of 43_incdec_shift.md. -/
theorem test_decode_incdec_shift : decodesAll [
  ([0xBC], .incA), ([0xAB, 0x10], .incDp 0x10), ([0xBB, 0x10], .incDpPlusX 0x10),
  ([0xAC, 0x34, 0x12], .incAbs 0x1234), ([0x3D], .incX), ([0xFC], .incY), ([0x9C], .decA),
  ([0x8B, 0x10], .decDp 0x10), ([0x9B, 0x10], .decDpPlusX 0x10), ([0x8C, 0x34, 0x12], .decAbs 0x1234),
  ([0x1D], .decX), ([0xDC], .decY), ([0x1C], .aslA), ([0x0B, 0x10], .aslDp 0x10), ([0x1B, 0x10], .aslDpPlusX 0x10),
  ([0x0C, 0x34, 0x12], .aslAbs 0x1234), ([0x5C], .lsrA), ([0x4B, 0x10], .lsrDp 0x10),
  ([0x5B, 0x10], .lsrDpPlusX 0x10), ([0x4C, 0x34, 0x12], .lsrAbs 0x1234), ([0x3C], .rolA),
  ([0x2B, 0x10], .rolDp 0x10), ([0x3B, 0x10], .rolDpPlusX 0x10), ([0x2C, 0x34, 0x12], .rolAbs 0x1234),
  ([0x7C], .rorA), ([0x6B, 0x10], .rorDp 0x10), ([0x7B, 0x10], .rorDpPlusX 0x10),
  ([0x6C, 0x34, 0x12], .rorAbs 0x1234), ([0x9F], .xcnA)] = true := by decide

/-- The encodings of 44_word16.md. -/
theorem test_decode_word16 : decodesAll [
  ([0xBA, 0x10], .movwYaDp 0x10), ([0xDA, 0x10], .movwDpYa 0x10), ([0x3A, 0x10], .incwDp 0x10),
  ([0x1A, 0x10], .decwDp 0x10), ([0x7A, 0x10], .addwYaDp 0x10), ([0x9A, 0x10], .subwYaDp 0x10),
  ([0x5A, 0x10], .cmpwYaDp 0x10)] = true := by decide

/-- The encodings of 45_muldiv_decimal.md. -/
theorem test_decode_muldiv_decimal : decodesAll [
  ([0xCF], .mulYa), ([0x9E], .divYaX), ([0xDF], .daaA), ([0xBE], .dasA)] = true := by decide

/-- The encodings of 46_branch.md. -/
theorem test_decode_branch : decodesAll [
  ([0x2F, 0xFE], .bra 0xFE), ([0xF0, 0xFE], .beq 0xFE), ([0xD0, 0xFE], .bne 0xFE), ([0xB0, 0xFE], .bcs 0xFE),
  ([0x90, 0xFE], .bcc 0xFE), ([0x70, 0xFE], .bvs 0xFE), ([0x50, 0xFE], .bvc 0xFE), ([0x30, 0xFE], .bmi 0xFE),
  ([0x10, 0xFE], .bpl 0xFE), ([0xA3, 0x10, 0xFE], .bbs 5 0x10 0xFE), ([0xB3, 0x10, 0xFE], .bbc 5 0x10 0xFE),
  ([0x2E, 0x10, 0xFE], .cbneDp 0x10 0xFE), ([0xDE, 0x10, 0xFE], .cbneDpPlusX 0x10 0xFE),
  ([0x6E, 0x10, 0xFE], .dbnzDp 0x10 0xFE), ([0xFE, 0xFE], .dbnzY 0xFE), ([0x5F, 0x34, 0x12], .jmpAbs 0x1234),
  ([0x1F, 0x34, 0x12], .jmpIndAbsPlusX 0x1234)] = true := by decide

/-- The encodings of 47_call_stack.md. -/
theorem test_decode_call_stack : decodesAll [
  ([0x3F, 0x34, 0x12], .callAbs 0x1234), ([0x4F, 0xC0], .pcall 0xC0), ([0x91], .tcall 9), ([0x0F], .brk),
  ([0x6F], .ret), ([0x7F], .ret1), ([0x2D], .pushA), ([0x4D], .pushX), ([0x6D], .pushY), ([0x0D], .pushPsw),
  ([0xAE], .popA), ([0xCE], .popX), ([0xEE], .popY), ([0x8E], .popPsw)] = true := by decide

/-- The encodings of 48_bit.md. -/
theorem test_decode_bit : decodesAll [
  ([0xA2, 0x10], .set1 5 0x10), ([0xB2, 0x10], .clr1 5 0x10), ([0x0E, 0x34, 0x12], .tset1Abs 0x1234),
  ([0x4E, 0x34, 0x12], .tclr1Abs 0x1234), ([0x4A, 0x34, 0xB2], .and1CMem 0x1234 5),
  ([0x6A, 0x34, 0xB2], .and1CNotMem 0x1234 5), ([0x0A, 0x34, 0xB2], .or1CMem 0x1234 5),
  ([0x2A, 0x34, 0xB2], .or1CNotMem 0x1234 5), ([0x8A, 0x34, 0xB2], .eor1CMem 0x1234 5),
  ([0xEA, 0x34, 0xB2], .not1Mem 0x1234 5), ([0xAA, 0x34, 0xB2], .mov1CMem 0x1234 5),
  ([0xCA, 0x34, 0xB2], .mov1MemC 0x1234 5)] = true := by decide

/-- The encodings of 49_psw_misc.md. -/
theorem test_decode_psw_misc : decodesAll [
  ([0x60], .clrc), ([0x80], .setc), ([0xED], .notc), ([0xE0], .clrv), ([0x20], .clrp), ([0x40], .setp),
  ([0xA0], .ei), ([0xC0], .di), ([0x00], .nop), ([0xEF], .sleep), ([0xFF], .stop)] = true := by decide

/-! ## One step from the start state of each vector of 95_test_vectors.md to the whole state it gives -/

/-- V1, V2, V3, V4, V5, V6: MOV A,#00; MOV A,#80; MOV A,20; MOV A,FE+X; MOV A,(X)+; MOV A,!7F00+Y. -/
theorem test_vectors_mov8_mov_1 :
    gives [0xE8, 0x00] base [] { base with a := 0x00, psw := 0x02, pc := 0x0202 } [] ∧
    gives [0xE8, 0x80] { base with psw := 0x49 } [] { base with psw := 0xC9, a := 0x80, pc := 0x0202 } [] ∧
    gives [0xE4, 0x20] { base with psw := 0x20 } [(0x0020, 0x11), (0x0120, 0x7F)]
      { base with psw := 0x20, a := 0x7F, pc := 0x0202 } [] ∧
    gives [0xF4, 0xFE] base [(0x0003, 0x55), (0x0103, 0xAA)] { base with a := 0x55, pc := 0x0202 } [] ∧
    gives [0xBF] { base with x := 0xFF } [(0x00FF, 0x99)]
      { base with x := 0x00, a := 0x99, psw := 0x80, pc := 0x0201 } [] ∧
    gives [0xF6, 0x00, 0x7F] base [(0x7F02, 0x01)] { base with a := 0x01, pc := 0x0203 } [] := by decide

/-- V7, V8, V9, V10, V11, V12: MOV A,(FF+X); MOV A,(10)+Y; MOV X,#FF; MOV Y,!1234; MOV 30,A; MOV (X)+,A. -/
theorem test_vectors_mov8_mov_2 :
    gives [0xE7, 0xFF] { base with x := 0x00 }
      [(0x0000, 0x12), (0x00FF, 0x34), (0x0100, 0x77), (0x1234, 0xC3), (0x7734, 0x01)]
      { base with x := 0x00, a := 0xC3, psw := 0x80, pc := 0x0202 } [] ∧
    gives [0xF7, 0x10] { base with y := 0x10 } [(0x0010, 0xF8), (0x0011, 0x12), (0x1308, 0x5A)]
      { base with y := 0x10, a := 0x5A, pc := 0x0202 } [] ∧
    gives [0xCD, 0xFF] base [] { base with x := 0xFF, psw := 0x80, pc := 0x0202 } [] ∧
    gives [0xEC, 0x34, 0x12] base [(0x1234, 0x00)] { base with y := 0x00, psw := 0x02, pc := 0x0203 } [] ∧
    gives [0xC4, 0x30] { base with psw := 0x82 } [] { base with psw := 0x82, pc := 0x0202 } [(0x0030, 0x3C)] ∧
    gives [0xAF] base [] { base with x := 0x06, pc := 0x0201 } [(0x0005, 0x3C)] := by decide

/-- V13, V14, V15, V16, V17, V18: MOV 40,Y; MOV !1000,Y; MOV 41,40; MOV 50,#A5; MOV A,X; MOV X,SP. -/
theorem test_vectors_mov8_mov_3 :
    gives [0xCB, 0x40] { base with x := 0xAA, y := 0xBB } [] { base with x := 0xAA, y := 0xBB, pc := 0x0202 }
      [(0x0040, 0xBB)] ∧
    gives [0xCC, 0x00, 0x10] { base with x := 0xAA, y := 0xBB } [] { base with x := 0xAA, y := 0xBB, pc := 0x0203 }
      [(0x1000, 0xBB)] ∧
    gives [0xFA, 0x40, 0x41] base [(0x0040, 0x80), (0x0041, 0x00)] { base with pc := 0x0203 } [(0x0041, 0x80)] ∧
    gives [0x8F, 0xA5, 0x50] base [] { base with pc := 0x0203 } [(0x0050, 0xA5)] ∧
    gives [0x7D] { base with x := 0x00 } [] { base with x := 0x00, a := 0x00, psw := 0x02, pc := 0x0201 } [] ∧
    gives [0x9D] base [] { base with x := 0xEF, psw := 0x80, pc := 0x0201 } [] := by decide

/-- V19: MOV SP,X. -/
theorem test_vectors_mov8_mov_4 :
    gives [0xBD] { base with x := 0x00, psw := 0x80 } []
      { base with x := 0x00, psw := 0x80, sp := 0x00, pc := 0x0201 } [] := by decide

/-- V20, V21, V22, V23, V24, V25: ADC A,#01; ADC A,#00; ADC A,#80; ADC A,(X); ADC A,(20+X). -/
theorem test_vectors_arith8_adc_1 :
    gives [0x88, 0x01] { base with a := 0x7F } [] { base with a := 0x80, psw := 0xC8, pc := 0x0202 } [] ∧
    gives [0x88, 0x01] { base with a := 0xFF } [] { base with a := 0x00, psw := 0x0B, pc := 0x0202 } [] ∧
    gives [0x88, 0x00] { base with a := 0x0F, psw := 0x01 } [] { base with a := 0x10, psw := 0x08, pc := 0x0202 } [] ∧
    gives [0x88, 0x80] { base with a := 0x80 } [] { base with a := 0x00, psw := 0x43, pc := 0x0202 } [] ∧
    gives [0x86] { base with a := 0x10, psw := 0x21 } [(0x0005, 0xEE), (0x0105, 0x22)]
      { base with a := 0x33, psw := 0x20, pc := 0x0201 } [] ∧
    gives [0x87, 0x20] { base with a := 0x01, psw := 0x01 } [(0x0025, 0x00), (0x0026, 0x30), (0x3000, 0x01)]
      { base with a := 0x03, pc := 0x0202 } [] := by decide

/-- V26, V27, V28: ADC 21,20; ADC 30,#10; ADC (X),(Y). -/
theorem test_vectors_arith8_adc_2 :
    gives [0x89, 0x20, 0x21] base [(0x0020, 0x01), (0x0021, 0xFF)] { base with psw := 0x0B, pc := 0x0203 }
      [(0x0021, 0x00)] ∧
    gives [0x98, 0x10, 0x30] base [(0x0030, 0x70)] { base with psw := 0xC0, pc := 0x0203 } [(0x0030, 0x80)] ∧
    gives [0x99] base [(0x0002, 0x09), (0x0005, 0x09)] { base with psw := 0x08, pc := 0x0201 } [(0x0005, 0x12)] := by decide

/-- V29, V30, V31, V32: SBC A,#01; SBC A,#3C. -/
theorem test_vectors_arith8_sbc :
    gives [0xA8, 0x01] { base with a := 0x00, psw := 0x01 } [] { base with a := 0xFF, psw := 0x80, pc := 0x0202 } [] ∧
    gives [0xA8, 0x01] { base with a := 0x03 } [] { base with a := 0x01, psw := 0x09, pc := 0x0202 } [] ∧
    gives [0xA8, 0x01] { base with a := 0x80, psw := 0x01 } [] { base with a := 0x7F, psw := 0x41, pc := 0x0202 } [] ∧
    gives [0xA8, 0x3C] { base with psw := 0x01 } [] { base with psw := 0x0B, a := 0x00, pc := 0x0202 } [] := by decide

/-- V33, V34, V35, V36, V37, V38: CMP A,#3D; CMP A,#3C; CMP X,#04; CMP Y,20; CMP 30,#05; CMP 21,20. -/
theorem test_vectors_arith8_cmp :
    gives [0x68, 0x3D] { base with psw := 0x49 } [] { base with psw := 0xC8, pc := 0x0202 } [] ∧
    gives [0x68, 0x3C] base [] { base with psw := 0x03, pc := 0x0202 } [] ∧
    gives [0xC8, 0x04] base [] { base with psw := 0x01, pc := 0x0202 } [] ∧
    gives [0x7E, 0x20] base [(0x0020, 0x82)] { base with psw := 0x80, pc := 0x0202 } [] ∧
    gives [0x78, 0x05, 0x30] base [(0x0030, 0x05)] { base with psw := 0x03, pc := 0x0203 } [] ∧
    gives [0x69, 0x20, 0x21] base [(0x0020, 0x10), (0x0021, 0x0F)] { base with psw := 0x80, pc := 0x0203 } [] := by decide

/-- V39, V42, V45: AND A,#C3; AND A,(X); AND 30,#F0. -/
theorem test_vectors_logic8_and :
    gives [0x28, 0xC3] { base with psw := 0x49 } [] { base with psw := 0x4B, a := 0x00, pc := 0x0202 } [] ∧
    gives [0x26] base [(0x0005, 0x0F)] { base with a := 0x0C, pc := 0x0201 } [] ∧
    gives [0x38, 0xF0, 0x30] base [(0x0030, 0xA5)] { base with psw := 0x80, pc := 0x0203 } [(0x0030, 0xA0)] := by decide

/-- V40, V43, V46: OR A,#80; OR A,!1234+X; OR 21,20. -/
theorem test_vectors_logic8_or :
    gives [0x08, 0x80] base [] { base with a := 0xBC, psw := 0x80, pc := 0x0202 } [] ∧
    gives [0x15, 0x34, 0x12] base [(0x1239, 0x03)] { base with a := 0x3F, pc := 0x0203 } [] ∧
    gives [0x09, 0x20, 0x21] base [(0x0020, 0x01), (0x0021, 0x02)] { base with pc := 0x0203 } [(0x0021, 0x03)] := by decide

/-- V41, V44, V47: EOR A,#FF; EOR A,(10)+Y; EOR (X),(Y). -/
theorem test_vectors_logic8_eor :
    gives [0x48, 0xFF] base [] { base with a := 0xC3, psw := 0x80, pc := 0x0202 } [] ∧
    gives [0x57, 0x10] base [(0x0010, 0x00), (0x0011, 0x20), (0x2002, 0x3C)]
      { base with a := 0x00, psw := 0x02, pc := 0x0202 } [] ∧
    gives [0x59] base [(0x0002, 0x0F), (0x0005, 0xFF)] { base with psw := 0x80, pc := 0x0201 } [(0x0005, 0xF0)] := by decide

/-- V48, V50, V52: INC A; INC X; INC 20. -/
theorem test_vectors_incdec_shift_inc :
    gives [0xBC] { base with a := 0xFF, psw := 0x01 } [] { base with a := 0x00, psw := 0x03, pc := 0x0201 } [] ∧
    gives [0x3D] { base with x := 0x7F } [] { base with x := 0x80, psw := 0x80, pc := 0x0201 } [] ∧
    gives [0xAB, 0x20] base [(0x0020, 0x0F)] { base with pc := 0x0202 } [(0x0020, 0x10)] := by decide

/-- V49, V51, V53: DEC A; DEC Y; DEC !1234. -/
theorem test_vectors_incdec_shift_dec :
    gives [0x9C] { base with a := 0x00 } [] { base with a := 0xFF, psw := 0x80, pc := 0x0201 } [] ∧
    gives [0xDC] { base with y := 0x01 } [] { base with y := 0x00, psw := 0x02, pc := 0x0201 } [] ∧
    gives [0x8C, 0x34, 0x12] base [(0x1234, 0x80)] { base with pc := 0x0203 } [(0x1234, 0x7F)] := by decide

/-- V54, V55: ASL A; ASL !1234. -/
theorem test_vectors_incdec_shift_asl :
    gives [0x1C] { base with a := 0x80 } [] { base with a := 0x00, psw := 0x03, pc := 0x0201 } [] ∧
    gives [0x0C, 0x34, 0x12] base [(0x1234, 0x41)] { base with psw := 0x80, pc := 0x0203 } [(0x1234, 0x82)] := by decide

/-- V56, V60: LSR A; LSR 20. -/
theorem test_vectors_incdec_shift_lsr :
    gives [0x5C] { base with a := 0x01, psw := 0x80 } [] { base with a := 0x00, psw := 0x03, pc := 0x0201 } [] ∧
    gives [0x4B, 0x20] base [(0x0020, 0xFF)] { base with psw := 0x01, pc := 0x0202 } [(0x0020, 0x7F)] := by decide

/-- V57: ROL A. -/
theorem test_vectors_incdec_shift_rol :
    gives [0x3C] { base with a := 0x80, psw := 0x01 } [] { base with a := 0x01, psw := 0x01, pc := 0x0201 } [] := by decide

/-- V58, V59: ROR A; ROR 20+X. -/
theorem test_vectors_incdec_shift_ror :
    gives [0x7C] { base with a := 0x01, psw := 0x01 } [] { base with a := 0x80, psw := 0x81, pc := 0x0201 } [] ∧
    gives [0x7B, 0x20] base [(0x0025, 0x02)] { base with pc := 0x0202 } [(0x0025, 0x01)] := by decide

/-- V61, V62: XCN A. -/
theorem test_vectors_incdec_shift_xcn :
    gives [0x9F] { base with a := 0xA5 } [] { base with a := 0x5A, pc := 0x0201 } [] ∧
    gives [0x9F] { base with a := 0x08 } [] { base with a := 0x80, psw := 0x80, pc := 0x0201 } [] := by decide

/-- V63, V64, V65: MOVW YA,FF; MOVW YA,20; MOVW 20,YA. -/
theorem test_vectors_word16_movw :
    gives [0xBA, 0xFF] base [(0x0000, 0x92), (0x00FF, 0x34), (0x0100, 0x11)]
      { base with a := 0x34, y := 0x92, psw := 0x80, pc := 0x0202 } [] ∧
    gives [0xBA, 0x20] base [(0x0020, 0x00), (0x0021, 0x00)]
      { base with a := 0x00, y := 0x00, psw := 0x02, pc := 0x0202 } [] ∧
    gives [0xDA, 0x20] { base with a := 0xCD, y := 0xAB } [] { base with a := 0xCD, y := 0xAB, pc := 0x0202 }
      [(0x0020, 0xCD), (0x0021, 0xAB)] := by decide

/-- V66, V67: INCW 20. -/
theorem test_vectors_word16_incw :
    gives [0x3A, 0x20] base [(0x0020, 0xFF), (0x0021, 0xFF)] { base with psw := 0x02, pc := 0x0202 }
      [(0x0020, 0x00), (0x0021, 0x00)] ∧
    gives [0x3A, 0x20] base [(0x0020, 0xFF), (0x0021, 0x7F)] { base with psw := 0x80, pc := 0x0202 }
      [(0x0020, 0x00), (0x0021, 0x80)] := by decide

/-- V68: DECW 20. -/
theorem test_vectors_word16_decw :
    gives [0x1A, 0x20] base [(0x0020, 0x00), (0x0021, 0x00)] { base with psw := 0x80, pc := 0x0202 }
      [(0x0020, 0xFF), (0x0021, 0xFF)] := by decide

/-- V69, V70, V71: ADDW YA,20. -/
theorem test_vectors_word16_addw :
    gives [0x7A, 0x20] { base with a := 0xFF, y := 0x0F, psw := 0x01 } [(0x0020, 0x01), (0x0021, 0x00)]
      { base with a := 0x00, y := 0x10, psw := 0x08, pc := 0x0202 } [] ∧
    gives [0x7A, 0x20] { base with a := 0x00, y := 0x80 } [(0x0020, 0x00), (0x0021, 0x80)]
      { base with a := 0x00, y := 0x00, psw := 0x43, pc := 0x0202 } [] ∧
    gives [0x7A, 0x20] { base with a := 0xFF, y := 0x7F } [(0x0020, 0x01), (0x0021, 0x00)]
      { base with a := 0x00, y := 0x80, psw := 0xC8, pc := 0x0202 } [] := by decide

/-- V72, V73: SUBW YA,20. -/
theorem test_vectors_word16_subw :
    gives [0x9A, 0x20] { base with a := 0x00, y := 0x10 } [(0x0020, 0x01), (0x0021, 0x00)]
      { base with a := 0xFF, y := 0x0F, psw := 0x01, pc := 0x0202 } [] ∧
    gives [0x9A, 0x20] { base with a := 0x00, y := 0x00, psw := 0x01 } [(0x0020, 0x01), (0x0021, 0x00)]
      { base with a := 0xFF, y := 0xFF, psw := 0x80, pc := 0x0202 } [] := by decide

/-- V74, V75: CMPW YA,20. -/
theorem test_vectors_word16_cmpw :
    gives [0x5A, 0x20] { base with a := 0x34, y := 0x12, psw := 0x01 } [(0x0020, 0x35), (0x0021, 0x12)]
      { base with a := 0x34, y := 0x12, psw := 0x81, pc := 0x0202 } [] ∧
    gives [0x5A, 0x20] { base with a := 0x34, y := 0x12 } [(0x0020, 0x34), (0x0021, 0x12)]
      { base with a := 0x34, y := 0x12, psw := 0x02, pc := 0x0202 } [] := by decide

/-- V76, V77, V78, V79: MUL YA. -/
theorem test_vectors_muldiv_decimal_mul :
    gives [0xCF] { base with a := 0xFF, y := 0xFF } [] { base with a := 0x01, y := 0xFE, psw := 0x80, pc := 0x0201 }
      [] ∧
    gives [0xCF] { base with a := 0x00, y := 0x7B } [] { base with a := 0x00, y := 0x00, psw := 0x02, pc := 0x0201 }
      [] ∧
    gives [0xCF] { base with a := 0x10, y := 0x08 } [] { base with a := 0x80, y := 0x00, pc := 0x0201 } [] ∧
    gives [0xCF] { base with a := 0x10, y := 0x08, cfg := { mulFlags := .y } } []
      { base with a := 0x80, y := 0x00, psw := 0x02, pc := 0x0201, cfg := { mulFlags := .y } } [] := by decide

/-- V83, V84, V85: DAA A. -/
theorem test_vectors_muldiv_decimal_daa :
    gives [0xDF] { base with a := 0x6D } [] { base with a := 0x73, pc := 0x0201 } [] ∧
    gives [0xDF] { base with a := 0x32, psw := 0x09 } [] { base with a := 0x98, psw := 0x89, pc := 0x0201 } [] ∧
    gives [0xDF] { base with a := 0x9A } [] { base with a := 0x00, psw := 0x03, pc := 0x0201 } [] := by decide

/-- V86, V87: DAS A. -/
theorem test_vectors_muldiv_decimal_das :
    gives [0xBE] { base with a := 0x0B, psw := 0x01 } [] { base with a := 0x05, psw := 0x01, pc := 0x0201 } [] ∧
    gives [0xBE] { base with a := 0xCF } [] { base with a := 0x69, pc := 0x0201 } [] := by decide

/-- V88, V89, V90, V91: BRA -2; BRA +7F; BRA -80; BRA -20. -/
theorem test_vectors_branch_bra :
    gives [0x2F, 0xFE] base [] base [] ∧
    gives [0x2F, 0x7F] base [] { base with pc := 0x0281 } [] ∧
    gives [0x2F, 0x80] base [] { base with pc := 0x0182 } [] ∧
    gives [0x2F, 0xE0] { base with pc := 0x0010 } [] { base with pc := 0xFFF2 } [] := by decide

/-- V92, V93: BEQ +10. -/
theorem test_vectors_branch_beq :
    gives [0xF0, 0x10] { base with psw := 0x02 } [] { base with psw := 0x02, pc := 0x0212 } [] ∧
    gives [0xF0, 0x10] { base with psw := 0xFD } [] { base with psw := 0xFD, pc := 0x0202 } [] := by decide

/-- V94: BNE +10. -/
theorem test_vectors_branch_bne :
    gives [0xD0, 0x10] base [] { base with pc := 0x0212 } [] := by decide

/-- V95: BCS +10. -/
theorem test_vectors_branch_bcs :
    gives [0xB0, 0x10] { base with psw := 0x01 } [] { base with psw := 0x01, pc := 0x0212 } [] := by decide

/-- V96: BCC +10. -/
theorem test_vectors_branch_bcc :
    gives [0x90, 0x10] { base with psw := 0x01 } [] { base with psw := 0x01, pc := 0x0202 } [] := by decide

/-- V97: BVS +10. -/
theorem test_vectors_branch_bvs :
    gives [0x70, 0x10] { base with psw := 0x40 } [] { base with psw := 0x40, pc := 0x0212 } [] := by decide

/-- V98: BVC +10. -/
theorem test_vectors_branch_bvc :
    gives [0x50, 0x10] { base with psw := 0x40 } [] { base with psw := 0x40, pc := 0x0202 } [] := by decide

/-- V99: BMI +10. -/
theorem test_vectors_branch_bmi :
    gives [0x30, 0x10] { base with psw := 0x80 } [] { base with psw := 0x80, pc := 0x0212 } [] := by decide

/-- V100: BPL +10. -/
theorem test_vectors_branch_bpl :
    gives [0x10, 0x10] { base with psw := 0x80 } [] { base with psw := 0x80, pc := 0x0202 } [] := by decide

/-- V101, V102: BBS 20.7,+10; BBS 20.0,+10. -/
theorem test_vectors_branch_bbs :
    gives [0xE3, 0x20, 0x10] base [(0x0020, 0x80)] { base with pc := 0x0213 } [] ∧
    gives [0x03, 0x20, 0x10] base [(0x0020, 0xFE)] { base with pc := 0x0203 } [] := by decide

/-- V103: BBC 20.3,-5. -/
theorem test_vectors_branch_bbc :
    gives [0x73, 0x20, 0xFB] base [(0x0020, 0xF7)] { base with pc := 0x01FE } [] := by decide

/-- V104, V105, V106: CBNE 20,+10; CBNE 20+X,+10. -/
theorem test_vectors_branch_cbne :
    gives [0x2E, 0x20, 0x10] { base with psw := 0x81 } [(0x0020, 0x3C)] { base with psw := 0x81, pc := 0x0203 } [] ∧
    gives [0x2E, 0x20, 0x10] base [(0x0020, 0x3D)] { base with pc := 0x0213 } [] ∧
    gives [0xDE, 0x20, 0x10] base [(0x0025, 0x00)] { base with pc := 0x0213 } [] := by decide

/-- V107, V108, V109, V110: DBNZ 20,-3; DBNZ Y,+10. -/
theorem test_vectors_branch_dbnz :
    gives [0x6E, 0x20, 0xFD] base [(0x0020, 0x02)] base [(0x0020, 0x01)] ∧
    gives [0x6E, 0x20, 0xFD] base [(0x0020, 0x01)] { base with pc := 0x0203 } [(0x0020, 0x00)] ∧
    gives [0x6E, 0x20, 0xFD] base [(0x0020, 0x00)] base [(0x0020, 0xFF)] ∧
    gives [0xFE, 0x10] { base with y := 0x01 } [] { base with y := 0x00, pc := 0x0202 } [] := by decide

/-- V111, V112: JMP !1234; JMP (!1000+X). -/
theorem test_vectors_branch_jmp :
    gives [0x5F, 0x34, 0x12] base [] { base with pc := 0x1234 } [] ∧
    gives [0x1F, 0x00, 0x10] base [(0x1005, 0x78), (0x1006, 0x56)] { base with pc := 0x5678 } [] := by decide

/-- V113, V114: CALL !1234. -/
theorem test_vectors_call_stack_call :
    gives [0x3F, 0x34, 0x12] base [] { base with sp := 0xED, pc := 0x1234 } [(0x01EE, 0x03), (0x01EF, 0x02)] ∧
    gives [0x3F, 0x34, 0x12] { base with sp := 0x00 } [] { base with sp := 0xFE, pc := 0x1234 }
      [(0x0100, 0x02), (0x01FF, 0x03)] := by decide

/-- V115: PCALL C0. -/
theorem test_vectors_call_stack_pcall :
    gives [0x4F, 0xC0] base [] { base with sp := 0xED, pc := 0xFFC0 } [(0x01EE, 0x02), (0x01EF, 0x02)] := by decide

/-- V116, V117: TCALL 3; TCALL 15. -/
theorem test_vectors_call_stack_tcall :
    gives [0x31] base [(0xFFD8, 0x00), (0xFFD9, 0x30)] { base with sp := 0xED, pc := 0x3000 }
      [(0x01EE, 0x01), (0x01EF, 0x02)] ∧
    gives [0xF1] base [(0xFFC0, 0x21), (0xFFC1, 0x43)] { base with sp := 0xED, pc := 0x4321 }
      [(0x01EE, 0x01), (0x01EF, 0x02)] := by decide

/-- V118: BRK. -/
theorem test_vectors_call_stack_brk :
    gives [0x0F] { base with psw := 0x85 } [(0xFFDE, 0x00), (0xFFDF, 0x40)]
      { base with psw := 0x91, sp := 0xEC, pc := 0x4000 } [(0x01ED, 0x85), (0x01EE, 0x01), (0x01EF, 0x02)] := by decide

/-- V119, V120: RET. -/
theorem test_vectors_call_stack_ret :
    gives [0x6F] { base with sp := 0xED } [(0x01EE, 0x03), (0x01EF, 0x02)] { base with pc := 0x0203 } [] ∧
    gives [0x6F] { base with sp := 0xFE } [(0x0100, 0x12), (0x01FF, 0x34)] { base with sp := 0x00, pc := 0x1234 } [] := by decide

/-- V121: RET1. -/
theorem test_vectors_call_stack_ret1 :
    gives [0x7F] { base with sp := 0xEC, psw := 0x10 } [(0x01ED, 0x85), (0x01EE, 0x01), (0x01EF, 0x02)]
      { base with psw := 0x85, pc := 0x0201 } [] := by decide

/-- V122, V123, V124: PUSH A; PUSH PSW; PUSH X. -/
theorem test_vectors_call_stack_push :
    gives [0x2D] base [] { base with sp := 0xEE, pc := 0x0201 } [(0x01EF, 0x3C)] ∧
    gives [0x0D] { base with psw := 0xFF } [] { base with psw := 0xFF, sp := 0xEE, pc := 0x0201 } [(0x01EF, 0xFF)] ∧
    gives [0x4D] { base with sp := 0x00 } [] { base with sp := 0xFF, pc := 0x0201 } [(0x0100, 0x05)] := by decide

/-- V125, V126, V127: POP A; POP Y; POP PSW. -/
theorem test_vectors_call_stack_pop :
    gives [0xAE] { base with sp := 0xEE } [(0x01EF, 0x00)] { base with a := 0x00, pc := 0x0201 } [] ∧
    gives [0xEE] { base with sp := 0xFF } [(0x0100, 0x77)] { base with sp := 0x00, y := 0x77, pc := 0x0201 } [] ∧
    gives [0x8E] { base with sp := 0xEE } [(0x01EF, 0x20)] { base with psw := 0x20, pc := 0x0201 } [] := by decide

/-- V128, V130: SET1 20.5; SET1 20.0. -/
theorem test_vectors_bit_set1 :
    gives [0xA2, 0x20] base [(0x0020, 0x00)] { base with pc := 0x0202 } [(0x0020, 0x20)] ∧
    gives [0x02, 0x20] { base with psw := 0x20 } [(0x0120, 0x80)] { base with psw := 0x20, pc := 0x0202 }
      [(0x0120, 0x81)] := by decide

/-- V129, V131: CLR1 20.5; CLR1 FF.7. -/
theorem test_vectors_bit_clr1 :
    gives [0xB2, 0x20] base [(0x0020, 0xFF)] { base with pc := 0x0202 } [(0x0020, 0xDF)] ∧
    gives [0xF2, 0xFF] base [(0x00FF, 0x80)] { base with pc := 0x0202 } [(0x00FF, 0x00)] := by decide

/-- V132, V133: TSET1 !1234. -/
theorem test_vectors_bit_tset1 :
    gives [0x0E, 0x34, 0x12] { base with a := 0x0F } [(0x1234, 0xF0)] { base with a := 0x0F, pc := 0x0203 }
      [(0x1234, 0xFF)] ∧
    gives [0x0E, 0x34, 0x12] { base with a := 0x0F, cfg := { tsetTest := .and } } [(0x1234, 0xF0)]
      { base with a := 0x0F, psw := 0x02, pc := 0x0203, cfg := { tsetTest := .and } } [(0x1234, 0xFF)] := by decide

/-- V134, V135: TCLR1 !1234. -/
theorem test_vectors_bit_tclr1 :
    gives [0x4E, 0x34, 0x12] { base with a := 0x81 } [(0x1234, 0x81)]
      { base with a := 0x81, psw := 0x02, pc := 0x0203 } [(0x1234, 0x00)] ∧
    gives [0x4E, 0x34, 0x12] { base with a := 0x01 } [(0x1234, 0x83)] { base with a := 0x01, pc := 0x0203 }
      [(0x1234, 0x82)] := by decide

/-- V136, V137: AND1 C,1234.5; AND1 C,/1234.5. -/
theorem test_vectors_bit_and1 :
    gives [0x4A, 0x34, 0xB2] { base with psw := 0x01 } [(0x1234, 0x20)] { base with psw := 0x01, pc := 0x0203 } [] ∧
    gives [0x6A, 0x34, 0xB2] { base with psw := 0x01 } [(0x1234, 0x20)] { base with pc := 0x0203 } [] := by decide

/-- V138, V139: OR1 C,1FFF.7; OR1 C,/0000.0. -/
theorem test_vectors_bit_or1 :
    gives [0x0A, 0xFF, 0xFF] base [(0x1FFF, 0x80)] { base with psw := 0x01, pc := 0x0203 } [] ∧
    gives [0x2A, 0x00, 0x00] base [(0x0000, 0x00)] { base with psw := 0x01, pc := 0x0203 } [] := by decide

/-- V140: EOR1 C,0120.3. -/
theorem test_vectors_bit_eor1 :
    gives [0x8A, 0x20, 0x61] { base with psw := 0x21 } [(0x0120, 0x08)] { base with psw := 0x20, pc := 0x0203 } [] := by decide

/-- V141: NOT1 0020.1. -/
theorem test_vectors_bit_not1 :
    gives [0xEA, 0x20, 0x20] base [(0x0020, 0x02)] { base with pc := 0x0203 } [(0x0020, 0x00)] := by decide

/-- V142, V143: MOV1 C,0020.6; MOV1 0020.6,C. -/
theorem test_vectors_bit_mov1 :
    gives [0xAA, 0x20, 0xC0] base [(0x0020, 0x40)] { base with psw := 0x01, pc := 0x0203 } [] ∧
    gives [0xCA, 0x20, 0xC0] base [(0x0020, 0xFF)] { base with pc := 0x0203 } [(0x0020, 0xBF)] := by decide

/-- V144: CLRC. -/
theorem test_vectors_psw_misc_clrc :
    gives [0x60] { base with psw := 0xFF } [] { base with psw := 0xFE, pc := 0x0201 } [] := by decide

/-- V145: SETC. -/
theorem test_vectors_psw_misc_setc :
    gives [0x80] base [] { base with psw := 0x01, pc := 0x0201 } [] := by decide

/-- V146: NOTC. -/
theorem test_vectors_psw_misc_notc :
    gives [0xED] { base with psw := 0x01 } [] { base with pc := 0x0201 } [] := by decide

/-- V147: CLRV. -/
theorem test_vectors_psw_misc_clrv :
    gives [0xE0] { base with psw := 0xFF } [] { base with psw := 0xB7, pc := 0x0201 } [] := by decide

/-- V148: CLRP. -/
theorem test_vectors_psw_misc_clrp :
    gives [0x20] { base with psw := 0xFF } [] { base with psw := 0xDF, pc := 0x0201 } [] := by decide

/-- V149: SETP. -/
theorem test_vectors_psw_misc_setp :
    gives [0x40] { base with psw := 0x04 } [] { base with psw := 0x20, pc := 0x0201 } [] := by decide

/-- V150: EI. -/
theorem test_vectors_psw_misc_ei :
    gives [0xA0] base [] { base with psw := 0x04, pc := 0x0201 } [] := by decide

/-- V151: DI. -/
theorem test_vectors_psw_misc_di :
    gives [0xC0] { base with psw := 0xFF } [] { base with psw := 0xFB, pc := 0x0201 } [] := by decide

/-- V152: NOP. -/
theorem test_vectors_psw_misc_nop :
    gives [0x00] { base with psw := 0xA5 } [] { base with psw := 0xA5, pc := 0x0201 } [] := by decide

/-- V153: SLEEP. -/
theorem test_vectors_psw_misc_sleep :
    gives [0xEF] base [] { base with pc := 0x0201, run := .sleep } [] := by decide

/-- V154: STOP. -/
theorem test_vectors_psw_misc_stop :
    gives [0xFF] base [] { base with pc := 0x0201, run := .stop } [] := by decide


/-- V80, V81, V82: DIV YA,X; the registers, and not the PSW, whose H is the free value div_h (log 21). -/
theorem test_vectors_muldiv_decimal_div :
    stepMeets (poke { base with a := 0x00, x := 0x07, y := 0x01 } [(0x0200, 0x9E)])
      (fun t => t.a == 0x24 && t.y == 0x04 && t.pc == 0x0201) ∧
    stepMeets (poke { base with a := 0xFF, y := 0x04 } [(0x0200, 0x9E)]) (fun t => t.a == 0xFF && t.y == 0x04) ∧
    stepMeets (poke { base with a := 0x03, y := 0x00 } [(0x0200, 0x9E)]) (fun t => t.a == 0x00 && t.y == 0x03) := by
  decide

/-! ## Parameters, refusals, faults, reset -/

/-- 44_word16.md R399: with CMPW_WRITES_C, C says that YA >= w. -/
theorem test_cmpw_writes_c :
    gives [0x5A, 0x20] { base with a := 0x34, y := 0x12, cfg := { cmpwWritesC := true } } [(0x20, 0x34), (0x21, 0x12)]
      { base with a := 0x34, y := 0x12, psw := 0x03, pc := 0x0202, cfg := { cmpwWritesC := true } } [] := by decide

/-- 49_psw_misc.md R535: without SETP_CLEARS_I, I is kept. -/
theorem test_setp_keeps_i :
    gives [0x40] { base with psw := 0x04, cfg := { setpClearsI := false } } []
      { base with psw := 0x24, pc := 0x0201, cfg := { setpClearsI := false } } [] := by decide

/-- 20_memory.md R60, R61: a store at 8000 or at FFC0 has no meaning under the default parameters; under the policy RAM
the store at 8000 is a store. -/
theorem test_store_outside_ram :
    exec (.movAbsA 0x8000) base = .refused (.unusableAccess 0x8000) ∧
    exec (.movAbsA 0xFFC0) base = .refused (.romWrite 0xFFC0) ∧
    exec (.movAbsA 0x8000) { base with cfg := { unusablePolicy := .ram } } =
      .next (poke { base with cfg := { unusablePolicy := .ram } } [(0x8000, 0x3C)]) := ⟨rfl, rfl, rfl⟩

/-- 10_state.md R40: no step in a standby state. -/
theorem test_standby :
    step { base with run := .sleep } = .fault .standbySleep ∧ step { base with run := .stop } = .fault .standbyStop :=
  ⟨rfl, rfl⟩

/-- 95_test_vectors.md T6, T7: after the reset event PSW AND EB is 00, and pc is FFC0 if FFFE holds C0 and FFFF FF. -/
theorem test_reset_event :
    (match resetEvent ⟨1, 2, 3, 4, true, true, [(0xFFBF, 9)]⟩ (poke { base with run := .stop, psw := 0xFF }
        [(0xFFFE, 0xC0), (0xFFFF, 0xFF)]) with
      | .ok t => t.psw &&& 0xEB == 0 && t.pc == 0xFFC0 && t.run == .running && t.sp == 4 &&
          Memory.read t.mem 0xFFBF == 9
      | .error _ => false) = true := by decide

/-- 30_encoding.md R105: the table's bits 7..0 are the code, bits 23..8 the absolute address; and the instruction so
placed is the first that runs after reset. -/
theorem test_table_word :
    decodeTableWord 24 0x1234E5 = some (.movAAbs 0x1234) ∧ decodeTableWord 8 0x9F = some .xcnA ∧
    stepMeets (State.reset.withFetchWord 16 0x5AE8) (fun t => t.a == 0x5A && t.pc == 2) ∧
    stepMeets (State.reset.withFetchWord 24 0x02005F) (fun t => t.pc == 0x0200) := by decide

/-! ## Witnesses: a state and operands that meet the hypotheses of each obligation -/

/-- A state in which every operand form below reads A5. -/
def wit : State := poke base [(0x0002, 0xA5), (0x0005, 0xA5), (0x0010, 0xA5), (0x0012, 0xA5), (0x0015, 0xA5),
  (0x0020, 0xA5), (0x00A5, 0xA5), (0x00A7, 0xA5), (0x1234, 0xA5), (0x1236, 0xA5), (0x1239, 0xA5)]

/-- Every operand form, with the operands d = 10, src = 20, imm = A5, addr = 1234. -/
def operands : List Operand := [.imm 0xA5, .mem .indX, .mem .indY, .mem (.dp 0x10), .mem (.dpPlusX 0x10),
  .mem (.dpPlusY 0x10), .mem (.abs 0x1234), .mem (.absPlusX 0x1234), .mem (.absPlusY 0x1234), .mem (.indDpX 0x10),
  .mem (.indDpPlusY 0x10), .mem (.dp 0x20)]

/-- Every operand can be read in `wit`: m = A5 and s1 = s. -/
abbrev OperandsRead : Prop := ∀ o ∈ operands, readOperand o wit = .ok (0xA5, wit)

/-- The two destinations of the memory forms, DP(X) and DP(30), can be written. -/
abbrev DestinationsWritable : Prop := wit.writable (wit.dp wit.x) = true ∧ wit.writable (wit.dp 0x30) = true

theorem witness_operands : OperandsRead := by decide +kernel
theorem witness_destinations : DestinationsWritable := by decide +kernel

theorem witness_LoadWritesRegisterAndNZ : OperandsRead := witness_operands

/-- An operand in IO_REGION can be read too: its byte is the environment's. -/
theorem witness_operand_of_io :
    readOperand (.mem (.dp 0xF0)) { base with cfg := { ioRegion := [0x00F0] } } =
      .ok (Config.ioRead 0 0x00F0, { base with cfg := { ioRegion := [0x00F0] }, ioReads := 1 }) := rfl

theorem witness_AutoIncrementMovesUseOldX :
    wit.readable (wit.dp wit.x) = true ∧ wit.writable (wit.dp wit.x) = true ∧
    { base with x := 0xFF, psw := 0x20 }.writable ({ base with x := 0xFF, psw := 0x20 }.dp 0xFF) = true := by decide +kernel

theorem witness_StoreWritesOneByte :
    ∀ e ∈ ([(.indX, 0x0005), (.dp 0x10, 0x0010), (.dpPlusX 0x10, 0x0015), (.dpPlusY 0x10, 0x0012), (.abs 0x1234, 0x1234),
      (.absPlusX 0x1234, 0x1239), (.absPlusY 0x1234, 0x1236), (.indDpX 0x10, 0x00A5), (.indDpPlusY 0x10, 0x00A7)] :
        List (Mode × Addr)), ea e.1 wit = .ok (e.2, wit) ∧ wit.writable e.2 = true := by decide +kernel

theorem witness_MemoryMovesWriteDestinationOnly :
    wit.readable (wit.dp 0x20) = true ∧ wit.writable (wit.dp 0x30) = true := by decide +kernel

theorem witness_AdcIntoAccumulator : OperandsRead := witness_operands
theorem witness_SbcIntoAccumulator : OperandsRead := witness_operands
theorem witness_AdcIntoMemory : OperandsRead ∧ DestinationsWritable := ⟨witness_operands, witness_destinations⟩
theorem witness_SbcIntoMemory : OperandsRead ∧ DestinationsWritable := ⟨witness_operands, witness_destinations⟩
theorem witness_CompareRegisterWritesNZC : OperandsRead := witness_operands

theorem witness_CompareMemoryWritesNZC :
    OperandsRead ∧ wit.readable (wit.dp wit.x) = true ∧ wit.readable (wit.dp 0x30) = true := ⟨witness_operands, by decide +kernel⟩

theorem witness_LogicIntoAccumulator : OperandsRead := witness_operands
theorem witness_LogicIntoMemory : OperandsRead ∧ DestinationsWritable := ⟨witness_operands, witness_destinations⟩

/-- The destinations of the read-modify-write forms for d = 10 and addr = 1234. -/
abbrev ModifiesWritable : Prop :=
  wit.writable (wit.dp 0x10) = true ∧ wit.writable (wit.dp (0x10 + wit.x)) = true ∧ wit.writable 0x1234 = true

theorem witness_IncrementDecrementMemory : ModifiesWritable := by decide +kernel
theorem witness_ShiftMemory : ModifiesWritable := by decide +kernel

/-- The word at offset 10 is 00A5; at offset FF its high byte is at offset 00. -/
theorem witness_MovwMovesWordAndSetsNZ :
    readWordDP 0x10 wit = .ok (0x00A5, wit) ∧
    readWordDP 0xFF (poke wit [(0x0000, 0x12)]) = .ok (0x1200, poke wit [(0x0000, 0x12)]) ∧
    wit.writable (wit.dp 0x10) = true ∧ wit.writable (wit.dp 0x11) = true := by decide +kernel

theorem witness_WordIncrementDecrement :
    readWordDP 0x10 wit = .ok (0x00A5, wit) ∧ wit.writable (wit.dp 0x10) = true ∧
    wit.writable (wit.dp (0x10 + 1)) = true := by decide +kernel

theorem witness_AddwAddsWithoutCarryIn : readWordDP 0x10 wit = .ok (0x00A5, wit) := by decide +kernel
theorem witness_SubwSubtractsWithoutBorrowIn : readWordDP 0x10 wit = .ok (0x00A5, wit) := by decide +kernel
theorem witness_CmpwWritesFlagsOnly : readWordDP 0x10 wit = .ok (0x00A5, wit) := by decide +kernel

/-- Y < X at both ends: Y = 0, X = 1 and Y = FE, X = FF. -/
theorem witness_DivGivesQuotientAndRemainder :
    ∀ s ∈ [{ base with y := 0x00, x := 0x01 }, { base with y := 0xFE, x := 0xFF }], s.y.toNat < s.x.toNat := by decide +kernel

/-- X <= Y at both ends: X = Y = 5, and X = 0. -/
theorem witness_DivOverflowSetsVAndCompletes :
    ∀ s ∈ [{ base with y := 0x05, x := 0x05 }, { base with y := 0x00, x := 0x00 }, { base with y := 0xFF, x := 0x00 }],
      s.x.toNat ≤ s.y.toNat := by decide +kernel

/-- The bit numbers 0 and 7 are in range; the byte can be read, and is A, or differs from A. -/
theorem witness_BranchesOnAByteWritePcOnly :
    (∀ bit ∈ [0, 7], bit < 8) ∧ readMode (.dp 0x10) wit = .ok (0xA5, wit) ∧
    readMode (.dpPlusX 0x10) wit = .ok (0xA5, wit) ∧
    readMode (.dp 0x10) { wit with a := 0xA5 } = .ok (0xA5, { wit with a := 0xA5 }) := by decide +kernel

/-- The byte can be written and is 1 (no branch), 0 and FF (branch). -/
theorem witness_DbnzDecrementsAndBranches :
    ([0x01, 0x00, 0xFF] : List Byte).all (fun v => (poke base [(0x0010, v)]).writable (base.dp 0x10) &&
      (poke base [(0x0010, v)]).byteAt (base.dp 0x10) == v) = true := by decide +kernel

/-- The pointer word can be read, where abs + X is 1239 and where it wraps to FFFF, with its high byte at 0000. -/
theorem witness_JumpsSetPc :
    readWord (BitVec.ofNat 16 (0x1234 + wit.x.toNat)) wit = .ok (0x00A5, wit) ∧
    readWord (BitVec.ofNat 16 (0xFFFA + wit.x.toNat)) wit = .ok (0x0000, wit) := by decide +kernel

/-- Both stack bytes can be written with SP = EF, and with SP = 00, where the second is at 01FF. -/
theorem witness_CallsPushReturnAddress :
    ∀ s ∈ [base, { base with sp := 0x00 }],
      s.writable (stackAddr s.sp) = true ∧ s.writable (stackAddr (s.sp - 1)) = true := by decide +kernel

/-- The entries of TCALL 0, at FFDE, and of TCALL 15, at FFC0, can be read. -/
theorem witness_TcallGoesThroughTable :
    (∀ e ∈ ([(0, 0xFFDE), (15, 0xFFC0)] : List (Nat × Addr)), e.1 < 16 ∧
      e.2 = base.cfg.tcallTop - BitVec.ofNat 16 (2 * e.1) ∧ base.readable e.2 = true ∧
      base.readable (e.2 + 1) = true) ∧
    base.writable (stackAddr base.sp) = true ∧ base.writable (stackAddr (base.sp - 1)) = true := by decide +kernel

theorem witness_BrkTakesTheException :
    (0xFFDE : Addr) = base.cfg.brkVector ∧
    (∀ s ∈ [base, { base with sp := 0x01 }], s.writable (stackAddr s.sp) = true ∧
      s.writable (stackAddr (s.sp - 1)) = true ∧ s.writable (stackAddr (s.sp - 2)) = true) ∧
    base.readable 0xFFDE = true ∧ base.readable (0xFFDE + 1) = true := by decide +kernel

/-- The stack bytes can be read with SP = EC, and with SP = FE, where they wrap to 0100. -/
theorem witness_ReturnsPopPcAndPsw :
    ∀ s ∈ [{ base with sp := 0xEC }, { base with sp := 0xFE }], s.readable (stackAddr (s.sp + 1)) = true ∧
      s.readable (stackAddr (s.sp + 2)) = true ∧ s.readable (stackAddr (s.sp + 3)) = true := by decide +kernel

/-- SP = 00 and SP = FF: the byte at 0100 or 01FF can be written. -/
theorem witness_PushStoresAtStackAddress :
    ([(0x00, 0x0100), (0xFF, 0x01FF)] : List (Byte × Addr)).all (fun e =>
      e.2.toNat == 0x0100 + e.1.toNat && { base with sp := e.1 }.writable e.2) = true := by decide +kernel

/-- SP = FF and SP = FE: the byte at 0100 or 01FF can be read. -/
theorem witness_PopReadsAfterIncrement :
    ([(0xFF, 0x0100), (0xFE, 0x01FF)] : List (Byte × Addr)).all (fun e =>
      e.2.toNat == 0x0100 + (e.1.toNat + 1) % 256 && { base with sp := e.1 }.readable e.2) = true := by decide +kernel

theorem witness_DirectPageBitCommands : (∀ bit ∈ [0, 7], bit < 8) ∧ wit.writable (wit.dp 0x10) = true := by decide +kernel

theorem witness_TestAndSetTestAndClear :
    (0xA5 : Byte) = wit.byteAt 0x1234 ∧
    wit.a - 0xA5 = (if wit.cfg.tsetTest = .sub then wit.a - 0xA5 else wit.a &&& 0xA5) ∧
    wit.writable 0x1234 = true := by decide +kernel

/-- The ends of the range of mem.bit: 0000.0 and 1FFF.7. -/
theorem witness_CarryBitCommandsWriteC :
    ∀ e ∈ ([(0x0000, 0), (0x1FFF, 7)] : List (Addr × Nat)), e.1.toNat < 8192 ∧ e.2 < 8 ∧
      false = testBit8 (wit.byteAt e.1) e.2 ∧ wit.readable e.1 = true := by decide +kernel

theorem witness_MemoryBitCommandsWriteOneBit :
    ∀ e ∈ ([(0x0000, 0), (0x1FFF, 7)] : List (Addr × Nat)), e.1.toNat < 8192 ∧ e.2 < 8 ∧
      0x00 = wit.byteAt e.1 ∧ wit.writable e.1 = true := by decide +kernel

/-- Instructions of one, two and three bytes at 0200, and one of three bytes at FFFE, of which the last is at 0000. -/
theorem witness_StepRunsDecodedInstruction :
    ∀ e ∈ ([(0x0200, [0x9F], .xcnA), (0x0200, [0xE4, 0x10], .movADp 0x10),
      (0x0200, [0x5F, 0x34, 0x12], .jmpAbs 0x1234), (0xFFFE, [0x5F, 0x34], .jmpAbs 0x0034)] :
        List (Addr × List Byte × Instr)),
      let s := poke { base with pc := e.1 } (cellsFrom e.1.toNat e.2.1)
      s.run = .running ∧
      (∀ k, k < e.2.2.length → s.readable (s.pc + BitVec.ofNat 16 k) = true ∧
        s.isIo (s.pc + BitVec.ofNat 16 k) = false) ∧
      decode (readRun e.2.2.length s.pc s).1 = .ok (e.2.2, []) ∧
      ∃ rest ∈ [[], [0], [0, 0]], decode [Memory.read s.mem s.pc.toNat, Memory.read s.mem (s.pc + 1).toNat,
        Memory.read s.mem (s.pc + 2).toNat] = .ok (e.2.2, rest) := by decide +kernel

/-- The largest operands that are well-formed. -/
theorem witness_DecodeOfEncodeIsIdentity :
    ∀ i ∈ ([.set1 7 0xFF, .bbc 7 0xFF 0xFF, .tcall 15, .mov1MemC 0x1FFF 7, .movAAbs 0xFFFF] : List Instr),
      i.wf = true := by decide +kernel

/-- A state in canonical form with a step that stores. -/
def storing : State := poke wit [(0x0200, 0xC4), (0x0201, 0x10)]

theorem witness_StepKeepsMemoryCanonical : Inv storing ∧ ∃ t, step storing = .next t :=
  ⟨show storing.mem.wf = true by decide +kernel, exists_of_stepMeets (p := fun _ => true) (by decide +kernel)⟩

/-- The last address below the ROM, and two memories in canonical form. -/
theorem witness_ResetEventWritesWhatTheSpecSays :
    0xFFBF < romBase.toNat ∧ Memory.wf [(0x0000, 1), (0xFFFF, 2)] = true ∧ wit.mem.wf = true := by decide +kernel

theorem witness_StepKeepsRomAndParameters : ∃ t, step storing = .next t :=
  exists_of_stepMeets (p := fun _ => true) (by decide +kernel)

theorem witness_InstructionsWriteOnlyTheirFlags : ∃ t, exec (.adcAImm 1) wit = .next t :=
  exists_of_completes (by decide +kernel)

theorem witness_InstructionsWriteOnlyTheirRegisters :
    (∃ t, exec .popA wit = .next t) ∧ RegName.x ∉ registersWritten .popA ∧ RegName.y ∉ registersWritten .popA :=
  ⟨exists_of_completes (by decide +kernel), by decide +kernel⟩

/-- The neighbours of the byte that MOV 10,A stores to are outside it. -/
theorem witness_InstructionsStoreOnlyAtTheirAddresses :
    (∃ t, exec (.movDpA 0x10) wit = .next t) ∧
    ∀ k ∈ [0x0F, 0x11], (storeAddresses wit (.movDpA 0x10)).all (fun a => a.toNat != k) = true := ⟨exists_of_completes (by decide +kernel), by decide +kernel⟩

theorem witness_OnlySleepAndStopLeaveRunning :
    { base with run := .sleep }.run = .sleep ∧ { base with run := .stop }.run = .stop ∧
    ∃ t, exec .nop base = .next t := ⟨rfl, rfl, _, rfl⟩

theorem witness_AddressingModesGiveTheirAddresses :
    ([0x10, 0xFF] : List Byte).all (fun d => wit.readable (wit.dp d) && wit.readable (wit.dp (d + 1))) = true ∧
    ea (.indDpPlusY 0x10) wit = .ok (0x00A7, wit) ∧ wit.readable 0x00A7 = true := by decide +kernel

/-- Each clause at both ends of its range: RAM 0000 and 7FFF, Unusable 8000 and FFBF under each policy, ROM FFC0 and
FFFF, and an address of IO_REGION inside RAM and inside the ROM. -/
theorem witness_AccessesFollowTheAddressMap :
    base.cfg.ramTop.toNat < 0xFFC0 ∧
    ([0x00F0, 0xFFFF] : List Addr).all (fun a => { base with cfg := { ioRegion := [0x00F0, 0xFFFF] } }.isIo a) = true ∧
    ([0x0000, 0x7FFF] : List Addr).all (fun a => !base.isIo a && decide (a.toNat ≤ base.cfg.ramTop.toNat)) = true ∧
    ([0x8000, 0xFFBF] : List Addr).all (fun a => !base.isIo a && decide (base.cfg.ramTop.toNat < a.toNat) &&
      decide (a.toNat < 0xFFC0)) = true ∧
    base.cfg.unusablePolicy = .refuse ∧ { base with cfg := { unusablePolicy := .ram } }.cfg.unusablePolicy = .ram ∧
    ([0xFFC0, 0xFFFF] : List Addr).all (fun a => !base.isIo a && decide (0xFFC0 ≤ a.toNat)) = true := by decide +kernel

theorem witness_ReturnsUndoCallsAndBrk :
    (∀ s ∈ [base, { base with sp := 0x00 }], (pushAddresses 3 s.sp).all (fun p => s.writable p && !s.isIo p) = true) ∧
    base.readable base.cfg.brkVector = true ∧ base.readable (base.cfg.brkVector + 1) = true := by decide +kernel

theorem witness_CanonicalMemoriesAreEqualData :
    wit.mem.wf = true ∧ (Memory.write wit.mem 0x0010 0xA5).wf = true ∧
    ∀ k : Nat, Memory.read wit.mem k = Memory.read (Memory.write wit.mem 0x0010 0xA5) k :=
  ⟨by decide +kernel, by decide +kernel, fun k => congrArg (fun m => Memory.read m k) (by decide +kernel)⟩

end Sys2Proof.Tests
end

section
/-! PROOF. The instruction that a step runs (O44): what the decoder takes from the bytes is said once, and the fetch is
shown to read exactly that. -/

namespace Sys2Proof

/-! The decoder. -/

/-- Each row of the opcode table makes instructions of the length of its layout (30_encoding.md R101). -/
theorem read_length_of_mem_opcodeTable :
    ∀ row ∈ opcodeTable, ∀ code op1 op2, (row.layout.read code op1 op2).length = row.layout.length := by
  simp only [opcodeTable, rowsMov8, rowsArith8, rowsLogic8, rowsIncDecShift, rowsWord16, rowsMulDiv, rowsBranch,
    rowsCallStack, rowsBit, rowsPswMisc, List.forall_mem_append, List.forall_mem_cons, List.not_mem_nil,
    IsEmpty.forall_iff, implies_true, and_true]
  and_intros
  all_goals exact fun _ _ _ => rfl

/-- An instruction is as long as the row of its code says, whatever its operand bytes are. -/
theorem read_length_of_rowOf {code : Byte} {row : OpcodeRow} (h : rowOf code = some row) (op1 op2 : Byte) :
    (row.layout.read code op1 op2).length = row.layout.length :=
  read_length_of_mem_opcodeTable row (List.mem_of_find?_eq_some h) code op1 op2

/-- Decoding succeeds exactly if the row of the code takes the operand bytes `ops` and leaves the rest. An operand byte
that the length does not include counts as 0; the layout does not look at it (30_encoding.md R101). -/
theorem decode_eq_ok {bs rest : List Byte} {i : Instr} :
    decode bs = .ok (i, rest) ↔ ∃ code ops row, bs = code :: (ops ++ rest) ∧ rowOf code = some row ∧
      row.layout.length = ops.length + 1 ∧ i = row.layout.read code (ops.getD 0 0) (ops.getD 1 0) := by
  constructor
  · intro h
    cases bs with
    | nil => simp [decode] at h
    | cons code tail =>
      obtain ⟨row, hrow⟩ := Option.isSome_iff_exists.mp (rowOf_isSome code)
      rcases layout_length row.layout with hl | hl | hl
      · obtain ⟨rfl, rfl⟩ : row.layout.read code 0 0 = i ∧ tail = rest := by simpa [decode, hrow, hl] using h
        exact ⟨code, [], row, rfl, hrow, hl, rfl⟩
      · match tail with
        | [] => simp [decode, hrow, hl] at h
        | op1 :: tail =>
          obtain ⟨rfl, rfl⟩ : row.layout.read code op1 0 = i ∧ tail = rest := by simpa [decode, hrow, hl] using h
          exact ⟨code, [op1], row, rfl, hrow, hl, rfl⟩
      · match tail with
        | [] | [_] => simp [decode, hrow, hl] at h
        | op1 :: op2 :: tail =>
          obtain ⟨rfl, rfl⟩ : row.layout.read code op1 op2 = i ∧ tail = rest := by simpa [decode, hrow, hl] using h
          exact ⟨code, [op1, op2], row, rfl, hrow, hl, rfl⟩
  · rintro ⟨code, ops, row, rfl, hrow, hl, rfl⟩
    match ops with
    | [] | [_] | [_, _] => simp_all [decode]
    | _ :: _ :: _ :: _ =>
      have := layout_length row.layout
      simp only [List.length_cons] at hl
      omega

/-- The bytes that an instruction takes from the front decode to it, with nothing left. -/
theorem decode_take {bs rest : List Byte} {i : Instr} (h : decode bs = .ok (i, rest)) :
    decode (bs.take i.length) = .ok (i, []) := by
  obtain ⟨code, ops, row, rfl, hrow, hl, rfl⟩ := decode_eq_ok.mp h
  refine decode_eq_ok.mpr ⟨code, ops, row, ?_, hrow, hl, rfl⟩
  simp [read_length_of_rowOf hrow, hl]

/-- A decoded instruction takes at most three bytes (30_encoding.md R100). -/
theorem length_le_three_of_decode {bs rest : List Byte} {i : Instr} (h : decode bs = .ok (i, rest)) :
    i.length ≤ 3 := by
  obtain ⟨code, ops, row, -, hrow, -, rfl⟩ := decode_eq_ok.mp h
  rw [read_length_of_rowOf hrow]
  have := layout_length row.layout
  omega

namespace Machine

/-! Reads at ascending addresses. -/

/-- Outside IO_REGION the bytes are those of memory and the reads change nothing (20_memory.md R57). -/
theorem readRun_of_not_isIo {s : State} {n : Nat} {a : Addr}
    (h : ∀ k, k < n → s.isIo (a + BitVec.ofNat 16 k) = false) :
    readRun n a s = ((List.range n).map fun k => Memory.read s.mem (a + BitVec.ofNat 16 k).toNat, s) := by
  induction n generalizing a with
  | zero => rfl
  | succ n ih =>
    have hshift : ∀ k, a + 1 + BitVec.ofNat 16 k = a + BitVec.ofNat 16 (k + 1) := by intro k; bv_omega
    have h0 : s.isIo a = false := by simpa using h 0 (Nat.succ_pos n)
    have hstay : s.afterRead a = s := by simp [State.afterRead, h0]
    have hrest := ih (a := a + 1) fun k hk => hshift k ▸ h (k + 1) (Nat.succ_lt_succ hk)
    simp only [readRun, hstay, hrest, State.byteAt, h0, hshift, List.range_succ_eq_map, List.map_cons, List.map_map,
      Function.comp_def, Nat.succ_eq_add_one, BitVec.add_zero, Bool.false_eq_true, if_false]

/-- Up to three such reads answer the front of the three bytes at which an instruction can lie. -/
theorem readRun_eq_take {s : State} {n : Nat} {a : Addr} (hn : n ≤ 3)
    (h : ∀ k, k < n → s.isIo (a + BitVec.ofNat 16 k) = false) :
    readRun n a s = ([Memory.read s.mem a.toNat, Memory.read s.mem (a + 1).toNat,
      Memory.read s.mem (a + 2).toNat].take n, s) := by
  have hrange : List.range n = (List.range 3).take n := by rw [List.take_range, Nat.min_eq_left hn]
  rw [readRun_of_not_isIo h, hrange, List.map_take]
  simp [List.range_succ, Nat.mod_eq_of_lt a.isLt]

/-! The fetch. -/

/-- The fetch of a code that selects `row` reads as many bytes from pc on as the row is long, one after the other, and
moves pc past them (30_encoding.md R101). -/
theorem fetch_of_rowOf {s : State} {row : OpcodeRow} (hrow : rowOf (s.byteAt s.pc) = some row)
    (hread : ∀ k, k < row.layout.length → s.readable (s.pc + BitVec.ofNat 16 k) = true) :
    fetch s = .ok
      (row.layout.read (s.byteAt s.pc) ((readRun row.layout.length s.pc s).1.getD 1 0)
        ((readRun row.layout.length s.pc s).1.getD 2 0),
      { (readRun row.layout.length s.pc s).2 with pc := s.pc + BitVec.ofNat 16 row.layout.length }) := by
  have h0 : s.readable s.pc = true := by
    have := layout_length row.layout
    simpa using hread 0 (by omega)
  rcases layout_length row.layout with hl | hl | hl <;> rw [hl] at hread
  · simp [fetch, readByte_of_readable, h0, hrow, operandByte, hl, readRun]
  · have h1 : s.readable (s.pc + 1#16) = true := hread 1 (by omega)
    simp [fetch, readByte_of_readable, h0, h1, hrow, operandByte, hl, readRun]
  · have h1 : s.readable (s.pc + 1#16) = true := hread 1 (by omega)
    have h2 : s.readable (s.pc + 2#16) = true := hread 2 (by omega)
    have hnext : s.pc + 1#16 + 1#16 = s.pc + 2#16 := by bv_omega
    simp [fetch, readByte_of_readable, h0, h1, h2, hrow, operandByte, hl, readRun, hnext]

/-- If the readable bytes at pc decode to an instruction, the fetch answers it and the state after the reads with pc
past its bytes. -/
theorem fetch_of_decode {s : State} {i : Instr}
    (hread : ∀ k, k < i.length → s.readable (s.pc + BitVec.ofNat 16 k) = true)
    (hdec : decode (readRun i.length s.pc s).1 = .ok (i, [])) :
    fetch s = .ok (i, { (readRun i.length s.pc s).2 with pc := s.pc + BitVec.ofNat 16 i.length }) := by
  obtain ⟨code, ops, row, hbytes, hrow, hl, hi⟩ := decode_eq_ok.mp hdec
  have hlen : i.length = row.layout.length := hi ▸ read_length_of_rowOf hrow _ _
  rw [List.append_nil] at hbytes
  have hcode : s.byteAt s.pc = code := by
    rw [hlen, hl] at hbytes
    exact (List.cons.inj hbytes).1
  rw [hlen] at hread hbytes ⊢
  rw [fetch_of_rowOf (hcode ▸ hrow) hread, hbytes, hcode, hi]
  rfl

/-- A running step is the meaning of the fetched instruction (00_scope.md R8). -/
theorem step_of_fetch {s t : State} {i : Instr} (hrun : s.run = .running) (h : fetch s = .ok (i, t)) :
    step s = exec i t := by
  simp [step, hrun, h]

/-- Settles O44: by `fetch_of_decode`; where no address is in IO_REGION, the bytes read are the front of those of memory
(`readRun_eq_take`), which decode alike (`decode_take`). -/
theorem stepRunsDecodedInstruction : Obligations.StepRunsDecodedInstruction := by
  refine ⟨fun s i hrun hread hdec => step_of_fetch hrun (fetch_of_decode hread hdec), ?_⟩
  intro s i rest hrun haddr hdec
  have hreads := readRun_eq_take (length_le_three_of_decode hdec) fun k hk => (haddr k hk).2
  have hfetch := fetch_of_decode (fun k hk => (haddr k hk).1) (by rw [hreads]; exact decode_take hdec)
  rw [hreads] at hfetch
  exact step_of_fetch hrun hfetch

end Machine

end Sys2Proof
end

section
/-! PROOF. What an instruction writes at most (O53, O54, O56, O48): one relation between the state before and the state
after, kept by each update of the state, then shown of each shape that instructions share, then of `exec`. -/

namespace Sys2Proof.Machine

/-! ## The relation -/

/-- One cell that the CPU may write, outside IO_REGION, took a byte (20_memory.md R51, R57). -/
def CellWritten (s : State) (m m2 : Memory) : Prop :=
  ∃ (a : Addr) (v : Byte), s.writable a = true ∧ s.isIo a = false ∧ m2 = Memory.write m a.toNat v

/-- From `s` to `t` no flag outside the bits `flags`, no byte register outside `regs`, no parameter and not the run
state changed; memory changed by writes of the CPU alone. -/
structure WritesAtMost (flags : Byte) (regs : List RegName) (s t : State) : Prop where
  flag : ∀ f : Flag, testBit8 flags f.bit = false → t.flag f = s.flag f
  byteReg : ∀ r : RegName, r ∉ regs → t.byteReg r = s.byteReg r
  cfg : t.cfg = s.cfg
  run : t.run = s.run
  mem : Relation.ReflTransGen (CellWritten s) s.mem t.mem

/-- The name of a data register among the byte registers. -/
def Reg.name : Reg → RegName
  | .a => .a
  | .x => .x
  | .y => .y

/-- What a write of the CPU may do to memory is a matter of the parameters alone. -/
theorem CellWritten.of_cfg {s t : State} {m m2 : Memory} (hc : t.cfg = s.cfg) (h : CellWritten t m m2) :
    CellWritten s m m2 := by
  obtain ⟨a, v, hw, hio, hm⟩ := h
  exact ⟨a, v, writable_of_cfg hc a ▸ hw, isIo_of_cfg hc a ▸ hio, hm⟩

/-- Writes of the CPU keep the canonical form of memory. -/
theorem wf_of_cellsWritten {s : State} {m m2 : Memory} (h : Relation.ReflTransGen (CellWritten s) m m2)
    (hwf : m.wf = true) : m2.wf = true := by
  induction h with
  | refl => exact hwf
  | tail _ hlast ih =>
    obtain ⟨a, v, -, -, rfl⟩ := hlast
    exact Memory.write_wf v ih a.isLt

/-- Two bytes whose flags agree outside a mask are equal outside it. -/
theorem psw_eq_outside {flags : Byte} {s t : State}
    (h : ∀ f : Flag, testBit8 flags f.bit = false → t.flag f = s.flag f) :
    t.psw &&& ~~~flags = s.psw &&& ~~~flags := by
  refine psw_ext (s := { t with psw := t.psw &&& ~~~flags }) (t := { s with psw := s.psw &&& ~~~flags }) fun f => ?_
  have hbit := f.bit_lt
  have hf := h f
  simp only [State.flag, testBit8] at hf
  cases hm : flags.getLsbD f.bit <;> simp_all [State.flag, testBit8]

namespace WritesAtMost

variable {flags : Byte} {regs : List RegName} {s t u : State}

/-! ## What keeps the relation: one lemma for each update of the state -/

theorem refl (s : State) : WritesAtMost flags regs s s :=
  ⟨fun _ _ => rfl, fun _ _ => rfl, rfl, rfl, .refl⟩

theorem trans (h1 : WritesAtMost flags regs s t) (h2 : WritesAtMost flags regs t u) : WritesAtMost flags regs s u where
  flag f hf := (h2.flag f hf).trans (h1.flag f hf)
  byteReg r hr := (h2.byteReg r hr).trans (h1.byteReg r hr)
  cfg := h2.cfg.trans h1.cfg
  run := h2.run.trans h1.run
  mem := h1.mem.trans (Relation.ReflTransGen.mono (fun _ _ => CellWritten.of_cfg h1.cfg) _ _ h2.mem)

/-- What writes no register at all writes none outside any list. -/
theorem of_nil (h : WritesAtMost flags [] s t) : WritesAtMost flags regs s t :=
  { h with byteReg := fun r _ => h.byteReg r List.not_mem_nil }

/-- Reads change the count of the environment's answers only. -/
theorem read (h : WritesAtMost flags regs s t) (hread : IoOnly t u) : WritesAtMost flags regs s u := by
  rw [hread]
  exact ⟨h.flag, h.byteReg, h.cfg, h.run, h.mem⟩

theorem setPc (h : WritesAtMost flags regs s t) (p : Addr) : WritesAtMost flags regs s { t with pc := p } :=
  ⟨h.flag, h.byteReg, h.cfg, h.run, h.mem⟩

theorem branchIf (h : WritesAtMost flags regs s t) (c : Bool) (rel : Byte) :
    WritesAtMost flags regs s (t.branchIf c rel) := by
  cases c with
  | true => exact h.setPc _
  | false => exact h

theorem setA (h : WritesAtMost flags regs s t) (ha : RegName.a ∈ regs) (v : Byte) :
    WritesAtMost flags regs s { t with a := v } where
  __ := h
  byteReg r hr := by
    cases r with
    | a => exact absurd ha hr
    | _ => exact h.byteReg _ hr

theorem setX (h : WritesAtMost flags regs s t) (hx : RegName.x ∈ regs) (v : Byte) :
    WritesAtMost flags regs s { t with x := v } where
  __ := h
  byteReg r hr := by
    cases r with
    | x => exact absurd hx hr
    | _ => exact h.byteReg _ hr

theorem setY (h : WritesAtMost flags regs s t) (hy : RegName.y ∈ regs) (v : Byte) :
    WritesAtMost flags regs s { t with y := v } where
  __ := h
  byteReg r hr := by
    cases r with
    | y => exact absurd hy hr
    | _ => exact h.byteReg _ hr

theorem setSp (h : WritesAtMost flags regs s t) (hsp : RegName.sp ∈ regs) (v : Byte) :
    WritesAtMost flags regs s { t with sp := v } where
  __ := h
  byteReg r hr := by
    cases r with
    | sp => exact absurd hsp hr
    | _ => exact h.byteReg _ hr

theorem setReg {r : Reg} (h : WritesAtMost flags regs s t) (hr : r.name ∈ regs) (v : Byte) :
    WritesAtMost flags regs s (t.setReg r v) := by
  cases r with
  | a => exact h.setA hr v
  | x => exact h.setX hr v
  | y => exact h.setY hr v

theorem setYa (h : WritesAtMost flags regs s t) (ha : RegName.a ∈ regs) (hy : RegName.y ∈ regs) (w : Word) :
    WritesAtMost flags regs s (t.setYa w) :=
  (h.setA ha (loByte w)).setY hy (hiByte w)

theorem setFlag {f : Flag} (h : WritesAtMost flags regs s t) (hf : testBit8 flags f.bit = true) (v : Bool) :
    WritesAtMost flags regs s (t.setFlag f v) where
  flag g hg := by
    have hne : g ≠ f := by
      rintro rfl
      simp [hf] at hg
    rw [flag_setFlag, if_neg hne, h.flag g hg]
  byteReg := h.byteReg
  cfg := h.cfg
  run := h.run
  mem := h.mem

theorem setNZ8 (h : WritesAtMost flags regs s t) (hn : testBit8 flags Flag.n.bit = true)
    (hz : testBit8 flags Flag.z.bit = true) (v : Byte) : WritesAtMost flags regs s (setNZ8 v t) :=
  (h.setFlag hn _).setFlag hz _

theorem setNZ16 (h : WritesAtMost flags regs s t) (hn : testBit8 flags Flag.n.bit = true)
    (hz : testBit8 flags Flag.z.bit = true) (w : Word) : WritesAtMost flags regs s (setNZ16 w t) :=
  (h.setFlag hn _).setFlag hz _

/-- Where all eight flags may be written, so may the PSW. -/
theorem setPsw (h : WritesAtMost 0xFF regs s t) (v : Byte) : WritesAtMost 0xFF regs s { t with psw := v } where
  __ := h
  flag f hf := by cases f <;> simp [testBit8, Flag.bit] at hf

theorem afterWrite {a : Addr} {v : Byte} (h : WritesAtMost flags regs s t) (hw : t.writable a = true) :
    WritesAtMost flags regs s (t.afterWrite a v) where
  flag f hf := (flag_congr (afterWrite_psw t a v) f).trans (h.flag f hf)
  byteReg r hr := by
    rw [← h.byteReg r hr]
    cases r <;> simp [State.byteReg]
  cfg := (afterWrite_cfg t a v).trans h.cfg
  run := (afterWrite_run t a v).trans h.run
  mem := by
    rw [afterWrite_mem]
    split
    · exact h.mem
    · next hio => exact h.mem.tail (.of_cfg h.cfg ⟨a, v, hw, Bool.not_eq_true _ ▸ hio, rfl⟩)

theorem writeWordDP {d : Byte} {w : Word} (h : WritesAtMost flags regs s t) (hw : writeWordDP d w t = .ok u) :
    WritesAtMost flags regs s u := by
  obtain ⟨hlo, hhi, rfl⟩ := writeWordDP_eq_ok.mp hw
  exact (h.afterWrite hlo).afterWrite ((writable_afterWrite _ _ _ _).trans hhi)

theorem push8 {v : Byte} (h : WritesAtMost flags regs s t) (hsp : RegName.sp ∈ regs) (hp : push8 v t = .ok u) :
    WritesAtMost flags regs s u := by
  obtain ⟨hw, rfl⟩ := push8_eq_ok.mp hp
  exact (h.afterWrite hw).setSp hsp _

theorem pop8 {v : Byte} (h : WritesAtMost flags regs s t) (hsp : RegName.sp ∈ regs) (hp : pop8 t = .ok (v, u)) :
    WritesAtMost flags regs s u := by
  obtain ⟨-, -, rfl⟩ := pop8_eq_ok.mp hp
  exact (h.read (afterRead_ioOnly t _)).setSp hsp _

theorem pushPc (h : WritesAtMost flags regs s t) (hsp : RegName.sp ∈ regs) (hp : pushPc t = .ok u) :
    WritesAtMost flags regs s u := by
  obtain ⟨t1, h1, h2⟩ := bind_eq_ok.mp hp
  exact (h.push8 hsp h1).push8 hsp h2

theorem popPc (h : WritesAtMost flags regs s t) (hsp : RegName.sp ∈ regs) (hp : popPc t = .ok u) :
    WritesAtMost flags regs s u := by
  obtain ⟨⟨lo, t1⟩, hlo, hrest⟩ := bind_eq_ok.mp hp
  obtain ⟨⟨hi, t2⟩, hhi, hset⟩ := bind_eq_ok.mp hrest
  cases hset
  exact ((h.pop8 hsp hlo).pop8 hsp hhi).setPc _

end WritesAtMost

/-! ## What the flag computations write -/

section Operations

variable (a m v : Byte) (ya w : Word) (s : State)

theorem adc8_writesAtMost : WritesAtMost 0xCB [] s (adc8 a m s).2 :=
  ((((WritesAtMost.refl s).setFlag rfl _).setFlag rfl _).setFlag rfl _).setNZ8 rfl rfl _

theorem sbc8_writesAtMost : WritesAtMost 0xCB [] s (sbc8 a m s).2 :=
  ((((WritesAtMost.refl s).setFlag rfl _).setFlag rfl _).setFlag rfl _).setNZ8 rfl rfl _

theorem cmp8_writesAtMost : WritesAtMost 0x83 [] s (cmp8 a m s) :=
  ((WritesAtMost.refl s).setFlag rfl _).setNZ8 rfl rfl _

theorem and8_writesAtMost : WritesAtMost 0x82 [] s (and8 a m s).2 := (WritesAtMost.refl s).setNZ8 rfl rfl _

theorem or8_writesAtMost : WritesAtMost 0x82 [] s (or8 a m s).2 := (WritesAtMost.refl s).setNZ8 rfl rfl _

theorem eor8_writesAtMost : WritesAtMost 0x82 [] s (eor8 a m s).2 := (WritesAtMost.refl s).setNZ8 rfl rfl _

theorem inc8_writesAtMost : WritesAtMost 0x82 [] s (inc8 v s).2 := (WritesAtMost.refl s).setNZ8 rfl rfl _

theorem dec8_writesAtMost : WritesAtMost 0x82 [] s (dec8 v s).2 := (WritesAtMost.refl s).setNZ8 rfl rfl _

theorem asl8_writesAtMost : WritesAtMost 0x83 [] s (asl8 v s).2 :=
  ((WritesAtMost.refl s).setFlag rfl _).setNZ8 rfl rfl _

theorem lsr8_writesAtMost : WritesAtMost 0x83 [] s (lsr8 v s).2 :=
  ((WritesAtMost.refl s).setFlag rfl _).setNZ8 rfl rfl _

theorem rol8_writesAtMost : WritesAtMost 0x83 [] s (rol8 v s).2 :=
  ((WritesAtMost.refl s).setFlag rfl _).setNZ8 rfl rfl _

theorem ror8_writesAtMost : WritesAtMost 0x83 [] s (ror8 v s).2 :=
  ((WritesAtMost.refl s).setFlag rfl _).setNZ8 rfl rfl _

theorem xcn8_writesAtMost : WritesAtMost 0x82 [] s (xcn8 v s).2 := (WritesAtMost.refl s).setNZ8 rfl rfl _

theorem addw16_writesAtMost : WritesAtMost 0xCB [] s (addw16 ya w s).2 :=
  ((((WritesAtMost.refl s).setFlag rfl _).setFlag rfl _).setFlag rfl _).setNZ16 rfl rfl _

theorem subw16_writesAtMost : WritesAtMost 0xCB [] s (subw16 ya w s).2 :=
  ((((WritesAtMost.refl s).setFlag rfl _).setFlag rfl _).setFlag rfl _).setNZ16 rfl rfl _

theorem cmpw16_writesAtMost : WritesAtMost (if s.cfg.cmpwWritesC then 0x83 else 0x82) [] s (cmpw16 ya w s) := by
  by_cases hc : s.cfg.cmpwWritesC = true
  · simp only [cmpw16, setNZ16_cfg, hc, if_true]
    exact ((WritesAtMost.refl s).setNZ16 rfl rfl (ya - w)).setFlag rfl _
  · simp only [cmpw16, setNZ16_cfg, hc]
    exact (WritesAtMost.refl s).setNZ16 rfl rfl (ya - w)

theorem testAgainstA_writesAtMost : WritesAtMost 0x82 [] s (testAgainstA m s) := by
  unfold testAgainstA
  split <;> exact (WritesAtMost.refl s).setNZ8 rfl rfl _

end Operations

/-! ## What the shapes that instructions share write -/

section Shapes

variable {flags d imm rel : Byte} {r : Reg} {o : Operand} {dst : Mode} {s t : State}

theorem loadReg_writesAtMost (h : loadReg r o s = .next t) : WritesAtMost 0x82 [r.name] s t := by
  obtain ⟨m, s1, hread, rfl⟩ := loadReg_eq_next.mp h
  exact (((WritesAtMost.refl s).read (readOperand_ioOnly hread)).setReg List.mem_cons_self m).setNZ8 rfl rfl m

theorem storeReg_writesAtMost (h : storeReg dst r s = .next t) : WritesAtMost 0 [] s t := by
  obtain ⟨a, s1, hea, hw, rfl⟩ := storeReg_eq_next.mp h
  exact ((WritesAtMost.refl s).read (ea_ioOnly hea)).afterWrite hw

theorem moveReg_writesAtMost {v : Byte} (h : moveReg r v s = .next t) : WritesAtMost 0x82 [r.name] s t := by
  cases h
  exact ((WritesAtMost.refl s).setReg List.mem_cons_self v).setNZ8 rfl rfl v

theorem operateA_writesAtMost {op : Byte → Byte → State → Byte × State}
    (h : operateA op o s = .next t) (hop : ∀ a m s, WritesAtMost flags [] s (op a m s).2) :
    WritesAtMost flags [.a] s t := by
  obtain ⟨m, s1, hread, rfl⟩ := operateA_eq_next.mp h
  exact (((WritesAtMost.refl s).read (readOperand_ioOnly hread)).trans (hop s1.a m s1).of_nil).setA
    List.mem_cons_self _

theorem operateMem_writesAtMost {op : Byte → Byte → State → Byte × State}
    (h : operateMem op dst o s = .next t) (hop : ∀ a m s, WritesAtMost flags [] s (op a m s).2) :
    WritesAtMost flags [] s t := by
  obtain ⟨m, s1, a, s2, hread, hea, -, hw, rfl⟩ := operateMem_eq_next.mp h
  have hreads := ((readOperand_ioOnly hread).trans (ea_ioOnly hea)).trans (afterRead_ioOnly s2 a)
  exact (((WritesAtMost.refl s).read hreads).trans (hop _ m _)).afterWrite hw

theorem compareReg_writesAtMost (h : compareReg r o s = .next t) : WritesAtMost 0x83 [] s t := by
  obtain ⟨m, s1, hread, rfl⟩ := compareReg_eq_next.mp h
  exact ((WritesAtMost.refl s).read (readOperand_ioOnly hread)).trans (cmp8_writesAtMost _ m s1)

theorem compareMem_writesAtMost (h : compareMem dst o s = .next t) : WritesAtMost 0x83 [] s t := by
  obtain ⟨m, s1, v, s2, hsrc, hdst, rfl⟩ := compareMem_eq_next.mp h
  have hreads := (readOperand_ioOnly hsrc).trans (readMode_ioOnly hdst)
  exact ((WritesAtMost.refl s).read hreads).trans (cmp8_writesAtMost v m s2)

theorem modifyReg_writesAtMost {op : Byte → State → Byte × State}
    (h : modifyReg op r s = .next t) (hop : ∀ v s, WritesAtMost flags [] s (op v s).2) :
    WritesAtMost flags [r.name] s t := by
  cases h
  exact (hop (s.reg r) s).of_nil.setReg List.mem_cons_self _

theorem modifyMem_writesAtMost {op : Byte → State → Byte × State}
    (h : modifyMem op dst s = .next t) (hop : ∀ v s, WritesAtMost flags [] s (op v s).2) :
    WritesAtMost flags [] s t := by
  obtain ⟨a, s1, hea, -, hw, rfl⟩ := modifyMem_eq_next.mp h
  have hreads := (ea_ioOnly hea).trans (afterRead_ioOnly s1 a)
  exact (((WritesAtMost.refl s).read hreads).trans (hop _ _)).afterWrite hw

theorem carryBit_writesAtMost {f : Bool → Bool → Bool} {addr : Addr} {bit : Nat}
    (h : carryBit f addr bit s = .next t) : WritesAtMost 0x01 [] s t := by
  obtain ⟨-, rfl⟩ := carryBit_eq_next.mp h
  exact ((WritesAtMost.refl s).read (afterRead_ioOnly s addr)).setFlag rfl _

theorem branchOnByte_writesAtMost {test : Byte → State → Bool} (h : branchOnByte test dst rel s = .next t) :
    WritesAtMost 0 [] s t := by
  obtain ⟨v, s1, hread, rfl⟩ := branchOnByte_eq_next.mp h
  exact ((WritesAtMost.refl s).read (readMode_ioOnly hread)).branchIf _ rel

theorem operateYa_writesAtMost {op : Word → Word → State → Word × State}
    (h : operateYa op d s = .next t) (hop : ∀ ya w s, WritesAtMost flags [] s (op ya w s).2) :
    WritesAtMost flags [.a, .y] s t := by
  obtain ⟨w, s1, hread, rfl⟩ := operateYa_eq_next.mp h
  exact (((WritesAtMost.refl s).read (readWordDP_ioOnly hread)).trans (hop s1.ya w s1).of_nil).setYa
    (by decide) (by decide) _

theorem modifyWordDP_writesAtMost {f : Word → Word} (h : modifyWordDP f d s = .next t) :
    WritesAtMost 0x82 [] s t := by
  obtain ⟨w, s1, s2, hread, hwrite, rfl⟩ := modifyWordDP_eq_next.mp h
  exact (((WritesAtMost.refl s).read (readWordDP_ioOnly hread)).writeWordDP hwrite).setNZ16 rfl rfl _

theorem pushByte_writesAtMost {v : Byte} (h : pushByte v s = .next t) : WritesAtMost 0 [.sp] s t :=
  (WritesAtMost.refl s).push8 List.mem_cons_self (complete_eq_next.mp h)

theorem popReg_writesAtMost (h : popReg r s = .next t) : WritesAtMost 0 [r.name, .sp] s t := by
  obtain ⟨⟨v, s1⟩, hpop, hset⟩ := bind_eq_ok.mp (complete_eq_next.mp h)
  cases hset
  exact ((WritesAtMost.refl s).pop8 (by simp) hpop).setReg List.mem_cons_self v

/-! ## What the instructions of a shape of their own write -/

theorem execMovAIndXInc_writesAtMost (h : execMovAIndXInc s = .next t) : WritesAtMost 0x82 [.a, .x] s t := by
  obtain ⟨⟨m, s1⟩, hread, hset⟩ := bind_eq_ok.mp (complete_eq_next.mp h)
  cases hset
  exact ((((WritesAtMost.refl s).read (readMode_ioOnly hread)).setX (by decide) _).setA (by decide) m).setNZ8 rfl rfl m

theorem execMovIndXIncA_writesAtMost (h : execMovIndXIncA s = .next t) : WritesAtMost 0 [.x] s t := by
  obtain ⟨⟨a, s1⟩, hea, hrest⟩ := bind_eq_ok.mp (complete_eq_next.mp h)
  obtain ⟨s2, hwrite, hset⟩ := bind_eq_ok.mp hrest
  obtain ⟨hw, rfl⟩ := writeByte_eq_ok.mp hwrite
  cases hset
  exact (((WritesAtMost.refl s).read (ea_ioOnly hea)).afterWrite hw).setX List.mem_cons_self _

theorem execMovDpDp_writesAtMost {src : Byte} (h : execMovDpDp d src s = .next t) : WritesAtMost 0 [] s t := by
  obtain ⟨⟨m, s1⟩, hread, hrest⟩ := bind_eq_ok.mp (complete_eq_next.mp h)
  obtain ⟨⟨a, s2⟩, hea, hwrite⟩ := bind_eq_ok.mp hrest
  obtain ⟨hw, rfl⟩ := writeByte_eq_ok.mp hwrite
  exact ((WritesAtMost.refl s).read ((readMode_ioOnly hread).trans (ea_ioOnly hea))).afterWrite hw

theorem execMovDpImm_writesAtMost (h : execMovDpImm d imm s = .next t) : WritesAtMost 0 [] s t := by
  obtain ⟨⟨a, s1⟩, hea, hwrite⟩ := bind_eq_ok.mp (complete_eq_next.mp h)
  obtain ⟨hw, rfl⟩ := writeByte_eq_ok.mp hwrite
  exact ((WritesAtMost.refl s).read (ea_ioOnly hea)).afterWrite hw

theorem execMovwYaDp_writesAtMost (h : execMovwYaDp d s = .next t) : WritesAtMost 0x82 [.a, .y] s t := by
  obtain ⟨⟨w, s1⟩, hread, hset⟩ := bind_eq_ok.mp (complete_eq_next.mp h)
  cases hset
  exact (((WritesAtMost.refl s).read (readWordDP_ioOnly hread)).setYa (by decide) (by decide) w).setNZ16 rfl rfl w

theorem execMovwDpYa_writesAtMost (h : execMovwDpYa d s = .next t) : WritesAtMost 0 [] s t :=
  (WritesAtMost.refl s).writeWordDP (complete_eq_next.mp h)

theorem execCmpwYaDp_writesAtMost (h : execCmpwYaDp d s = .next t) :
    WritesAtMost (if s.cfg.cmpwWritesC then 0x83 else 0x82) [] s t := by
  obtain ⟨⟨w, s1⟩, hread, hset⟩ := bind_eq_ok.mp (complete_eq_next.mp h)
  cases hset
  have hreads := readWordDP_ioOnly hread
  rw [← hreads.cfg]
  exact ((WritesAtMost.refl s).read hreads).trans (cmpw16_writesAtMost _ w s1)

theorem execMulYa_writesAtMost (h : execMulYa s = .next t) : WritesAtMost 0x82 [.a, .y] s t := by
  cases h
  have hya := fun p => (WritesAtMost.refl (flags := 0x82) (regs := [.a, .y]) s).setYa (by decide) (by decide) p
  unfold mulFlags16
  split
  · exact (hya _).setNZ16 rfl rfl _
  · exact (hya _).setNZ8 rfl rfl _

theorem execDivYaX_writesAtMost (h : execDivYaX s = .next t) : WritesAtMost 0xCA [.a, .y] s t := by
  cases h
  exact (((((WritesAtMost.refl s).setA (by decide) _).setY (by decide) _).setFlag rfl _).setFlag rfl _).setNZ8 rfl rfl _

theorem execDaaA_writesAtMost (h : execDaaA s = .next t) : WritesAtMost 0x83 [.a] s t := by
  cases h
  exact (((WritesAtMost.refl s).setA List.mem_cons_self _).setFlag rfl _).setNZ8 rfl rfl _

theorem execDasA_writesAtMost (h : execDasA s = .next t) : WritesAtMost 0x83 [.a] s t := by
  cases h
  exact (((WritesAtMost.refl s).setA List.mem_cons_self _).setFlag rfl _).setNZ8 rfl rfl _

/-- BRA and the flag branches. -/
theorem branchIf_writesAtMost {c : Bool} (h : (.next (s.branchIf c rel) : Result) = .next t) :
    WritesAtMost 0 [] s t := by
  cases h
  exact (WritesAtMost.refl s).branchIf c rel

theorem execDbnzDp_writesAtMost (h : execDbnzDp d rel s = .next t) : WritesAtMost 0 [] s t := by
  obtain ⟨⟨a, s1⟩, hea, hrest⟩ := bind_eq_ok.mp (complete_eq_next.mp h)
  obtain ⟨⟨v, s2⟩, hread, hrest⟩ := bind_eq_ok.mp hrest
  obtain ⟨s3, hwrite, hset⟩ := bind_eq_ok.mp hrest
  obtain ⟨hw, rfl⟩ := writeByte_eq_ok.mp hwrite
  cases hset
  exact (((WritesAtMost.refl s).read ((ea_ioOnly hea).trans (readByte_ioOnly hread))).afterWrite hw).branchIf _ rel

theorem execDbnzY_writesAtMost (h : execDbnzY rel s = .next t) : WritesAtMost 0 [.y] s t := by
  cases h
  exact ((WritesAtMost.refl s).setY List.mem_cons_self _).branchIf _ rel

theorem execJmpIndAbsPlusX_writesAtMost {addr : Addr} (h : execJmpIndAbsPlusX addr s = .next t) :
    WritesAtMost 0 [] s t := by
  obtain ⟨⟨a, s1⟩, hea, hrest⟩ := bind_eq_ok.mp (complete_eq_next.mp h)
  obtain ⟨⟨target, s2⟩, hread, hset⟩ := bind_eq_ok.mp hrest
  cases hset
  exact ((WritesAtMost.refl s).read ((ea_ioOnly hea).trans (readWord_ioOnly hread))).setPc target

theorem execCallAbs_writesAtMost {addr : Addr} (h : execCallAbs addr s = .next t) : WritesAtMost 0 [.sp] s t := by
  obtain ⟨s1, hpush, hset⟩ := bind_eq_ok.mp (complete_eq_next.mp h)
  cases hset
  exact ((WritesAtMost.refl s).pushPc List.mem_cons_self hpush).setPc addr

theorem execPcall_writesAtMost {upage : Byte} (h : execPcall upage s = .next t) : WritesAtMost 0 [.sp] s t := by
  obtain ⟨s1, hpush, hset⟩ := bind_eq_ok.mp (complete_eq_next.mp h)
  cases hset
  exact ((WritesAtMost.refl s).pushPc List.mem_cons_self hpush).setPc _

theorem execTcall_writesAtMost {n : Nat} (h : execTcall n s = .next t) : WritesAtMost 0 [.sp] s t := by
  obtain ⟨s1, hpush, hrest⟩ := bind_eq_ok.mp (complete_eq_next.mp h)
  obtain ⟨⟨target, s2⟩, hread, hset⟩ := bind_eq_ok.mp hrest
  cases hset
  exact (((WritesAtMost.refl s).pushPc List.mem_cons_self hpush).read (readWord_ioOnly hread)).setPc target

/-- BRK: the pushes, then B and I, then the vector (47_call_stack.md R473). -/
theorem execBrk_writesAtMost (h : execBrk s = .next t) : WritesAtMost 0x14 [.sp] s t := by
  obtain ⟨s1, hpc, hrest⟩ := bind_eq_ok.mp (complete_eq_next.mp h)
  obtain ⟨s2, hpsw, hrest⟩ := bind_eq_ok.mp hrest
  obtain ⟨⟨target, s3⟩, hread, hset⟩ := bind_eq_ok.mp hrest
  cases hset
  have hpushed : WritesAtMost 0x14 [.sp] s s2 :=
    ((WritesAtMost.refl s).pushPc List.mem_cons_self hpc).push8 List.mem_cons_self hpsw
  exact (((hpushed.setFlag rfl _).setFlag rfl _).read (readWord_ioOnly hread)).setPc target

theorem execRet1_writesAtMost (h : execRet1 s = .next t) : WritesAtMost 0xFF [.sp] s t := by
  obtain ⟨⟨v, s1⟩, hpop, hpc⟩ := bind_eq_ok.mp (complete_eq_next.mp h)
  exact (((WritesAtMost.refl s).pop8 List.mem_cons_self hpop).setPsw v).popPc List.mem_cons_self hpc

theorem execPopPsw_writesAtMost (h : execPopPsw s = .next t) : WritesAtMost 0xFF [.sp] s t := by
  obtain ⟨⟨v, s1⟩, hpop, hset⟩ := bind_eq_ok.mp (complete_eq_next.mp h)
  cases hset
  exact ((WritesAtMost.refl s).pop8 List.mem_cons_self hpop).setPsw v

/-- The flag commands of one flag. -/
theorem setFlag_writesAtMost {f : Flag} {v : Bool} (h : (.next (s.setFlag f v) : Result) = .next t)
    (hf : testBit8 flags f.bit = true) : WritesAtMost flags [] s t := by
  cases h
  exact (WritesAtMost.refl s).setFlag hf v

theorem execClrv_writesAtMost (h : execClrv s = .next t) : WritesAtMost 0x48 [] s t := by
  cases h
  exact ((WritesAtMost.refl s).setFlag rfl _).setFlag rfl _

/-- SETP writes P, and I where SETP_CLEARS_I says so (log 17). -/
theorem execSetp_writesAtMost (h : execSetp s = .next t) : WritesAtMost 0x24 [] s t := by
  cases h
  have hp : WritesAtMost 0x24 [] s (s.setFlag .p true) := (WritesAtMost.refl s).setFlag rfl _
  split
  · exact hp.setFlag rfl _
  · exact hp

end Shapes

/-! ## What each instruction writes -/

/-- No instruction but SLEEP and STOP writes more than its flags, its registers, memory and pc; the cases stand by the
shape of the meaning. -/
theorem exec_writesAtMost {i : Instr} {s t : State} (h : exec i s = .next t) (hsleep : i ≠ .sleep)
    (hstop : i ≠ .stop) : WritesAtMost (flagsWritten s.cfg i) (registersWritten i) s t := by
  cases i with dsimp only [exec] at h
  | movAImm | movAIndX | movADp | movADpPlusX | movAAbs | movAAbsPlusX | movAAbsPlusY | movAIndDpX | movAIndDpPlusY
  | movXImm | movXDp | movXDpPlusY | movXAbs | movYImm | movYDp | movYDpPlusX | movYAbs =>
    exact loadReg_writesAtMost h
  | movIndXA | movDpA | movDpPlusXA | movAbsA | movAbsPlusXA | movAbsPlusYA | movIndDpXA | movIndDpPlusYA
  | movDpX | movDpPlusYX | movAbsX | movDpY | movDpPlusXY | movAbsY =>
    exact storeReg_writesAtMost h
  | movAX | movAY | movXA | movYA | movXSp => exact moveReg_writesAtMost h
  | movAIndXInc => exact execMovAIndXInc_writesAtMost h
  | movIndXIncA => exact execMovIndXIncA_writesAtMost h
  | movSpX =>
    cases h
    exact (WritesAtMost.refl s).setSp List.mem_cons_self _
  | movDpDp => exact execMovDpDp_writesAtMost h
  | movDpImm => exact execMovDpImm_writesAtMost h
  | adcAImm | adcAIndX | adcADp | adcADpPlusX | adcAAbs | adcAAbsPlusX | adcAAbsPlusY | adcAIndDpX | adcAIndDpPlusY =>
    exact operateA_writesAtMost h adc8_writesAtMost
  | adcIndXIndY | adcDpDp | adcDpImm => exact operateMem_writesAtMost h adc8_writesAtMost
  | sbcAImm | sbcAIndX | sbcADp | sbcADpPlusX | sbcAAbs | sbcAAbsPlusX | sbcAAbsPlusY | sbcAIndDpX | sbcAIndDpPlusY =>
    exact operateA_writesAtMost h sbc8_writesAtMost
  | sbcIndXIndY | sbcDpDp | sbcDpImm => exact operateMem_writesAtMost h sbc8_writesAtMost
  | cmpAImm | cmpAIndX | cmpADp | cmpADpPlusX | cmpAAbs | cmpAAbsPlusX | cmpAAbsPlusY | cmpAIndDpX | cmpAIndDpPlusY
  | cmpXImm | cmpXDp | cmpXAbs | cmpYImm | cmpYDp | cmpYAbs =>
    exact compareReg_writesAtMost h
  | cmpIndXIndY | cmpDpDp | cmpDpImm => exact compareMem_writesAtMost h
  | andAImm | andAIndX | andADp | andADpPlusX | andAAbs | andAAbsPlusX | andAAbsPlusY | andAIndDpX | andAIndDpPlusY =>
    exact operateA_writesAtMost h and8_writesAtMost
  | andIndXIndY | andDpDp | andDpImm => exact operateMem_writesAtMost h and8_writesAtMost
  | orAImm | orAIndX | orADp | orADpPlusX | orAAbs | orAAbsPlusX | orAAbsPlusY | orAIndDpX | orAIndDpPlusY =>
    exact operateA_writesAtMost h or8_writesAtMost
  | orIndXIndY | orDpDp | orDpImm => exact operateMem_writesAtMost h or8_writesAtMost
  | eorAImm | eorAIndX | eorADp | eorADpPlusX | eorAAbs | eorAAbsPlusX | eorAAbsPlusY | eorAIndDpX | eorAIndDpPlusY =>
    exact operateA_writesAtMost h eor8_writesAtMost
  | eorIndXIndY | eorDpDp | eorDpImm => exact operateMem_writesAtMost h eor8_writesAtMost
  | incA | incX | incY => exact modifyReg_writesAtMost h inc8_writesAtMost
  | incDp | incDpPlusX | incAbs => exact modifyMem_writesAtMost h inc8_writesAtMost
  | decA | decX | decY => exact modifyReg_writesAtMost h dec8_writesAtMost
  | decDp | decDpPlusX | decAbs => exact modifyMem_writesAtMost h dec8_writesAtMost
  | aslA => exact modifyReg_writesAtMost h asl8_writesAtMost
  | aslDp | aslDpPlusX | aslAbs => exact modifyMem_writesAtMost h asl8_writesAtMost
  | lsrA => exact modifyReg_writesAtMost h lsr8_writesAtMost
  | lsrDp | lsrDpPlusX | lsrAbs => exact modifyMem_writesAtMost h lsr8_writesAtMost
  | rolA => exact modifyReg_writesAtMost h rol8_writesAtMost
  | rolDp | rolDpPlusX | rolAbs => exact modifyMem_writesAtMost h rol8_writesAtMost
  | rorA => exact modifyReg_writesAtMost h ror8_writesAtMost
  | rorDp | rorDpPlusX | rorAbs => exact modifyMem_writesAtMost h ror8_writesAtMost
  | xcnA => exact modifyReg_writesAtMost h xcn8_writesAtMost
  | movwYaDp => exact execMovwYaDp_writesAtMost h
  | movwDpYa => exact execMovwDpYa_writesAtMost h
  | incwDp | decwDp => exact modifyWordDP_writesAtMost h
  | addwYaDp => exact operateYa_writesAtMost h addw16_writesAtMost
  | subwYaDp => exact operateYa_writesAtMost h subw16_writesAtMost
  | cmpwYaDp => exact execCmpwYaDp_writesAtMost h
  | mulYa => exact execMulYa_writesAtMost h
  | divYaX => exact execDivYaX_writesAtMost h
  | daaA => exact execDaaA_writesAtMost h
  | dasA => exact execDasA_writesAtMost h
  | bra => exact branchIf_writesAtMost (c := true) h
  | beq | bne | bcs | bcc | bvs | bvc | bmi | bpl => exact branchIf_writesAtMost h
  | bbs | bbc | cbneDp | cbneDpPlusX => exact branchOnByte_writesAtMost h
  | dbnzDp => exact execDbnzDp_writesAtMost h
  | dbnzY => exact execDbnzY_writesAtMost h
  | jmpAbs addr =>
    cases h
    exact (WritesAtMost.refl s).setPc addr
  | jmpIndAbsPlusX => exact execJmpIndAbsPlusX_writesAtMost h
  | callAbs => exact execCallAbs_writesAtMost h
  | pcall => exact execPcall_writesAtMost h
  | tcall => exact execTcall_writesAtMost h
  | brk => exact execBrk_writesAtMost h
  | ret => exact (WritesAtMost.refl s).popPc List.mem_cons_self (complete_eq_next.mp h)
  | ret1 => exact execRet1_writesAtMost h
  | pushA | pushX | pushY | pushPsw => exact pushByte_writesAtMost h
  | popA | popX | popY => exact popReg_writesAtMost h
  | popPsw => exact execPopPsw_writesAtMost h
  | set1 | clr1 | not1Mem | mov1MemC => exact modifyMem_writesAtMost h fun _ s => .refl s
  | tset1Abs | tclr1Abs => exact modifyMem_writesAtMost h testAgainstA_writesAtMost
  | and1CMem | and1CNotMem | or1CMem | or1CNotMem | eor1CMem | mov1CMem => exact carryBit_writesAtMost h
  | clrc | setc | notc => exact setFlag_writesAtMost (flags := 0x01) (f := .c) h rfl
  | clrp => exact setFlag_writesAtMost (flags := 0x20) (f := .p) h rfl
  | ei | di => exact setFlag_writesAtMost (flags := 0x04) (f := .i) h rfl
  | clrv => exact execClrv_writesAtMost h
  | setp => exact execSetp_writesAtMost h
  | nop =>
    cases h
    exact .refl s
  | sleep => exact absurd rfl hsleep
  | stop => exact absurd rfl hstop

/-- What an instruction that completes can do: SLEEP and STOP write the run state alone, every other writes at most what
its rows of the tables name. -/
theorem exec_cases {i : Instr} {s t : State} (h : exec i s = .next t) :
    i = .sleep ∧ t = { s with run := .sleep } ∨ i = .stop ∧ t = { s with run := .stop } ∨
      i ≠ .sleep ∧ i ≠ .stop ∧ WritesAtMost (flagsWritten s.cfg i) (registersWritten i) s t := by
  by_cases hsleep : i = .sleep
  · subst hsleep
    cases h
    exact .inl ⟨rfl, rfl⟩
  · by_cases hstop : i = .stop
    · subst hstop
      cases h
      exact .inr (.inl ⟨rfl, rfl⟩)
    · exact .inr (.inr ⟨hsleep, hstop, exec_writesAtMost h hsleep hstop⟩)

/-- What a step that answers a next state did: it ran the fetched instruction (00_scope.md R8). -/
theorem exists_fetch_of_step {s t : State} (h : step s = .next t) :
    ∃ i u, fetch s = .ok (i, u) ∧ exec i u = .next t := by
  unfold step at h
  split at h
  · cases h
  · cases h
  · split at h
    · next i u hfetch => exact ⟨i, u, hfetch, h⟩
    · cases h

/-! ## The obligations -/

/-- Settles O48: a fetch leaves memory, and an instruction changes it by writes, which keep the canonical form. -/
theorem stepKeepsMemoryCanonical : Obligations.StepKeepsMemoryCanonical := by
  intro s t hinv hstep
  obtain ⟨i, u, hfetch, hexec⟩ := exists_fetch_of_step hstep
  have hu : Inv u := by
    rw [fetch_frame hfetch]
    exact hinv
  obtain ⟨-, rfl⟩ | ⟨-, rfl⟩ | ⟨-, -, hw⟩ := exec_cases hexec
  · exact hu
  · exact hu
  · exact wf_of_cellsWritten hw.mem hu

/-- Settles O53: flag by flag from `exec_cases`. -/
theorem instructionsWriteOnlyTheirFlags : Obligations.InstructionsWriteOnlyTheirFlags := by
  intro i s t h
  obtain ⟨-, rfl⟩ | ⟨-, rfl⟩ | ⟨-, -, hw⟩ := exec_cases h
  · rfl
  · rfl
  · exact psw_eq_outside hw.flag

/-- Settles O54, from `exec_cases`. -/
theorem instructionsWriteOnlyTheirRegisters : Obligations.InstructionsWriteOnlyTheirRegisters := by
  intro i s t r h hr
  obtain ⟨-, rfl⟩ | ⟨-, rfl⟩ | ⟨-, -, hw⟩ := exec_cases h
  · cases r <;> rfl
  · cases r <;> rfl
  · exact hw.byteReg r hr

/-- Settles O56: the standby states by `step`'s own cases, the run state from `exec_cases`. -/
theorem onlySleepAndStopLeaveRunning : Obligations.OnlySleepAndStopLeaveRunning := by
  refine ⟨fun s => ⟨rfl, rfl, rfl⟩, fun s => ⟨fun hrun => ?_, fun hrun => ?_⟩, fun i s t h => ?_⟩
  · rw [step, hrun]
  · rw [step, hrun]
  · obtain ⟨rfl, rfl⟩ | ⟨rfl, rfl⟩ | ⟨hsleep, hstop, hw⟩ := exec_cases h
    · rfl
    · rfl
    · rw [if_neg hsleep, if_neg hstop, hw.run]

end Sys2Proof.Machine
end

section
/-! PROOF. The representation of memory is unique (O60), and the state after reset (O49, O50). -/

namespace Sys2Proof.Machine

/-- The canonical form of a listed cell and what follows it. -/
theorem Memory.wfFrom_cons {low k : Nat} {b : Byte} {rest : Memory} :
    Memory.wfFrom low ((k, b) :: rest) = true ↔
      low ≤ k ∧ k < 65536 ∧ b ≠ Memory.unlisted ∧ Memory.wfFrom (k + 1) rest = true := by
  simp [Memory.wfFrom, and_assoc]

/-- Below its first address a canonical memory lists nothing. -/
theorem Memory.read_of_lt {m : Memory} {low addr : Nat} (h : Memory.wfFrom low m = true) (hlt : addr < low) :
    Memory.read m addr = Memory.unlisted := by
  induction m generalizing low with
  | nil => rfl
  | cons c rest ih =>
    obtain ⟨hk, -, -, hrest⟩ := Memory.wfFrom_cons.mp h
    rw [Memory.read, if_neg (by omega)]
    exact ih hrest (by omega)

/-- If two canonical memories read alike, the second lists nothing below the first listed address of the first. -/
theorem Memory.le_of_read_eq {m m2 : Memory} {low low2 k k2 : Nat} {b b2 : Byte}
    (h : Memory.wfFrom low ((k, b) :: m) = true) (h2 : Memory.wfFrom low2 ((k2, b2) :: m2) = true)
    (hread : ∀ a, Memory.read ((k, b) :: m) a = Memory.read ((k2, b2) :: m2) a) : k2 ≤ k := by
  by_contra hlt
  obtain ⟨-, -, hb, -⟩ := Memory.wfFrom_cons.mp h
  obtain ⟨-, hbound, hb2, hrest2⟩ := Memory.wfFrom_cons.mp h2
  have hnone := Memory.read_of_lt (Memory.wfFrom_cons.mpr ⟨le_rfl, hbound, hb2, hrest2⟩) (Nat.lt_of_not_le hlt)
  rw [← hread k, Memory.read, if_pos rfl] at hnone
  exact hb hnone

/-- Canonical memories that read alike are equal: by induction, their first cells being the same. -/
theorem Memory.eq_of_read_eq {m m2 : Memory} {low low2 : Nat} (h : Memory.wfFrom low m = true)
    (h2 : Memory.wfFrom low2 m2 = true) (hread : ∀ a, Memory.read m a = Memory.read m2 a) : m = m2 := by
  induction m generalizing m2 low low2 with
  | nil =>
    cases m2 with
    | nil => rfl
    | cons c rest =>
      obtain ⟨-, -, hb, -⟩ := Memory.wfFrom_cons.mp h2
      exact absurd (by simpa [Memory.read] using (hread c.1).symm) hb
  | cons c rest ih =>
    obtain ⟨-, -, hb, hrest⟩ := Memory.wfFrom_cons.mp h
    cases m2 with
    | nil => exact absurd (by simpa [Memory.read] using hread c.1) hb
    | cons c2 rest2 =>
      obtain ⟨k, b⟩ := c
      obtain ⟨k2, b2⟩ := c2
      obtain ⟨-, -, -, hrest2⟩ := Memory.wfFrom_cons.mp h2
      obtain rfl : k = k2 :=
        Nat.le_antisymm (Memory.le_of_read_eq h2 h fun a => (hread a).symm) (Memory.le_of_read_eq h h2 hread)
      obtain rfl : b = b2 := by simpa [Memory.read] using hread k
      have htail : ∀ a, Memory.read rest a = Memory.read rest2 a := by
        intro a
        by_cases ha : k = a
        · subst ha
          rw [Memory.read_of_lt hrest (Nat.lt_succ_self k), Memory.read_of_lt hrest2 (Nat.lt_succ_self k)]
        · simpa [Memory.read, ha] using hread a
      rw [ih hrest hrest2 htail]

/-- Settles O60, from `Memory.eq_of_read_eq`. -/
theorem canonicalMemoriesAreEqualData : Obligations.CanonicalMemoriesAreEqualData :=
  fun _ _ h h2 hread => Memory.eq_of_read_eq h h2 hread

/-- Settles O49: the empty list is canonical. -/
theorem resetMemoryCanonical : Obligations.ResetMemoryCanonical := rfl

/-- Settles O50: the PSW is 0, so every flag is; the other values stand in the definition. -/
theorem resetStateValues : Obligations.ResetStateValues := by
  have hflag : ∀ f : Flag, State.reset.flag f = false := by
    intro f
    simp [State.flag, testBit8, State.reset]
  exact ⟨fun f _ => hflag f, rfl, rfl, rfl, rfl, rfl, rfl, hflag .b, hflag .i, rfl, rfl, rfl⟩

end Sys2Proof.Machine
end

section
/-! PROOF. What a step leaves of memory: the ROM and the parameters (O52), and every byte outside the addresses that the
instruction stores to (O55). -/

namespace Sys2Proof.Machine

/-! ## The ROM -/

/-- In the ROM, outside IO_REGION, no write has a meaning (20_memory.md R61). -/
theorem writable_of_rom {s : State} {a : Addr} (hio : s.isIo a = false) (hrom : romBase ≤ a) :
    s.writable a = false := by
  simp [State.writable, State.region, regionOf, hio, hrom]

/-- Writes of the CPU leave every byte of the ROM (20_memory.md R61). -/
theorem read_rom_of_cellsWritten {s : State} {m m2 : Memory} (h : Relation.ReflTransGen (CellWritten s) m m2)
    {k : Nat} (hk : romBase.toNat ≤ k) : Memory.read m2 k = Memory.read m k := by
  induction h with
  | refl => rfl
  | tail _ hlast ih =>
    obtain ⟨a, v, hw, hio, rfl⟩ := hlast
    have hne : k ≠ a.toNat := by
      rintro rfl
      rw [writable_of_rom hio hk] at hw
      exact Bool.false_ne_true hw
    rw [Memory.read_write_other _ v hne, ih]

/-- Settles O52: a fetch leaves memory and the parameters; an instruction changes memory by writes of the CPU, none of
which is in the ROM. -/
theorem stepKeepsRomAndParameters : Obligations.StepKeepsRomAndParameters := by
  intro s t hstep
  obtain ⟨i, u, hfetch, hexec⟩ := exists_fetch_of_step hstep
  have hframe := fetch_frame hfetch
  have hmem : u.mem = s.mem := by rw [hframe]
  have hcfg : u.cfg = s.cfg := by rw [hframe]
  rw [SameRom, ← hmem, ← hcfg]
  obtain ⟨-, rfl⟩ | ⟨-, rfl⟩ | ⟨-, -, hw⟩ := exec_cases hexec
  · exact ⟨fun _ _ => rfl, rfl⟩
  · exact ⟨fun _ _ => rfl, rfl⟩
  · exact ⟨fun _ hk => read_rom_of_cellsWritten hw.mem hk, hw.cfg⟩

/-! ## The relation: which addresses a store may have changed -/

/-- Every byte of memory outside the addresses of the list is in `t` as in `s`. -/
def StoresOnlyAt (addrs : List Addr) (s t : State) : Prop :=
  ∀ k : Nat, (∀ a ∈ addrs, a.toNat ≠ k) → Memory.read t.mem k = Memory.read s.mem k

namespace StoresOnlyAt

variable {addrs : List Addr} {s t u : State}

theorem of_mem (h : t.mem = s.mem) : StoresOnlyAt addrs s t := fun k _ => by rw [h]

theorem refl (s : State) : StoresOnlyAt addrs s s := of_mem rfl

theorem congr_mem (h : StoresOnlyAt addrs s t) (hm : u.mem = t.mem) : StoresOnlyAt addrs s u := fun k hk => by
  rw [hm, h k hk]

theorem afterWrite {a : Addr} {v : Byte} (h : StoresOnlyAt addrs s t) (ha : a ∈ addrs) :
    StoresOnlyAt addrs s (t.afterWrite a v) := by
  intro k hk
  rw [afterWrite_mem, ← h k hk]
  split
  · rfl
  · exact Memory.read_write_other _ v (hk a ha).symm

theorem writeWordDP {d : Byte} {w : Word} (h : StoresOnlyAt (wordDPAddresses t d) s t)
    (hw : writeWordDP d w t = .ok u) : StoresOnlyAt (wordDPAddresses t d) s u := by
  obtain ⟨-, -, rfl⟩ := writeWordDP_eq_ok.mp hw
  exact (h.afterWrite (by simp [wordDPAddresses])).afterWrite (by simp [wordDPAddresses])

theorem push8 {v : Byte} (h : StoresOnlyAt addrs s t) (ha : stackAddr t.sp ∈ addrs) (hp : push8 v t = .ok u) :
    StoresOnlyAt addrs s u := by
  obtain ⟨-, rfl⟩ := push8_eq_ok.mp hp
  exact (h.afterWrite ha).congr_mem rfl

end StoresOnlyAt

section MemoryFrame

variable {d imm rel : Byte} {r : Reg} {o : Operand} {dst : Mode} {s t : State}

/-! ## Operations and instructions that store nothing -/

theorem PswOnly.mem (h : PswOnly s t) : t.mem = s.mem := by rw [h]

theorem setReg_mem {v : Byte} : (s.setReg r v).mem = s.mem := by cases r <;> rfl

theorem pop8_mem {v : Byte} (h : pop8 s = .ok (v, t)) : t.mem = s.mem := by
  obtain ⟨-, -, rfl⟩ := pop8_eq_ok.mp h
  exact afterRead_mem s _

theorem popPc_mem (h : popPc s = .ok t) : t.mem = s.mem := by
  obtain ⟨-, -, rfl⟩ := (popPc_eq_ok rfl rfl).mp h
  rfl

theorem loadReg_mem (h : loadReg r o s = .next t) : t.mem = s.mem := by
  obtain ⟨m, s1, hread, rfl⟩ := loadReg_eq_next.mp h
  rw [setNZ8_mem, setReg_mem, (readOperand_ioOnly hread).mem]

theorem operateA_mem {op : Byte → Byte → State → Byte × State} (h : operateA op o s = .next t)
    (hop : ∀ a m s, PswOnly s (op a m s).2) : t.mem = s.mem := by
  obtain ⟨m, s1, hread, rfl⟩ := operateA_eq_next.mp h
  exact (hop s1.a m s1).mem.trans (readOperand_ioOnly hread).mem

theorem compareReg_mem (h : compareReg r o s = .next t) : t.mem = s.mem := by
  obtain ⟨m, s1, hread, rfl⟩ := compareReg_eq_next.mp h
  exact (readOperand_ioOnly hread).mem

theorem compareMem_mem (h : compareMem dst o s = .next t) : t.mem = s.mem := by
  obtain ⟨m, s1, v, s2, hsrc, hdst, rfl⟩ := compareMem_eq_next.mp h
  exact ((readOperand_ioOnly hsrc).trans (readMode_ioOnly hdst)).mem

theorem carryBit_mem {f : Bool → Bool → Bool} {addr : Addr} {bit : Nat} (h : carryBit f addr bit s = .next t) :
    t.mem = s.mem := by
  obtain ⟨-, rfl⟩ := carryBit_eq_next.mp h
  exact afterRead_mem s addr

theorem branchOnByte_mem {test : Byte → State → Bool} (h : branchOnByte test dst rel s = .next t) :
    t.mem = s.mem := by
  obtain ⟨v, s1, hread, rfl⟩ := branchOnByte_eq_next.mp h
  rw [branchIf_mem, (readMode_ioOnly hread).mem]

theorem operateYa_mem {op : Word → Word → State → Word × State} (h : operateYa op d s = .next t)
    (hop : ∀ ya w s, PswOnly s (op ya w s).2) : t.mem = s.mem := by
  obtain ⟨w, s1, hread, rfl⟩ := operateYa_eq_next.mp h
  rw [setYa_mem, (hop s1.ya w s1).mem, (readWordDP_ioOnly hread).mem]

theorem popReg_mem (h : popReg r s = .next t) : t.mem = s.mem := by
  obtain ⟨⟨v, s1⟩, hpop, hset⟩ := bind_eq_ok.mp (complete_eq_next.mp h)
  cases hset
  rw [setReg_mem, pop8_mem hpop]

theorem execMovAIndXInc_mem (h : execMovAIndXInc s = .next t) : t.mem = s.mem := by
  obtain ⟨⟨m, s1⟩, hread, hset⟩ := bind_eq_ok.mp (complete_eq_next.mp h)
  cases hset
  exact (readMode_ioOnly hread).mem

theorem execMovwYaDp_mem (h : execMovwYaDp d s = .next t) : t.mem = s.mem := by
  obtain ⟨⟨w, s1⟩, hread, hset⟩ := bind_eq_ok.mp (complete_eq_next.mp h)
  cases hset
  exact (readWordDP_ioOnly hread).mem

theorem execCmpwYaDp_mem (h : execCmpwYaDp d s = .next t) : t.mem = s.mem := by
  obtain ⟨⟨w, s1⟩, hread, hset⟩ := bind_eq_ok.mp (complete_eq_next.mp h)
  cases hset
  exact (cmpw16_pswOnly _ w s1).mem.trans (readWordDP_ioOnly hread).mem

theorem execJmpIndAbsPlusX_mem {addr : Addr} (h : execJmpIndAbsPlusX addr s = .next t) : t.mem = s.mem := by
  obtain ⟨⟨a, s1⟩, hea, hrest⟩ := bind_eq_ok.mp (complete_eq_next.mp h)
  obtain ⟨⟨target, s2⟩, hread, hset⟩ := bind_eq_ok.mp hrest
  cases hset
  exact ((ea_ioOnly hea).trans (readWord_ioOnly hread)).mem

theorem execRet1_mem (h : execRet1 s = .next t) : t.mem = s.mem := by
  obtain ⟨-, -, -, rfl⟩ := (leaveBreak_eq_ok rfl rfl rfl).mp (complete_eq_next.mp h)
  rfl

theorem execPopPsw_mem (h : execPopPsw s = .next t) : t.mem = s.mem := by
  obtain ⟨⟨v, s1⟩, hpop, hset⟩ := bind_eq_ok.mp (complete_eq_next.mp h)
  cases hset
  show s1.mem = s.mem
  exact pop8_mem hpop

theorem execSetp_mem (h : execSetp s = .next t) : t.mem = s.mem := by
  cases h
  split <;> rfl

/-! ## Stores to a memory operand -/

theorem mem_addressOf {a : Addr} (h : ea dst s = .ok (a, t)) : a ∈ addressOf dst s := by
  simp [addressOf, h]

/-! The address of `(X)` and of `dp` needs no read: reading the source before does not move the destination. -/

theorem addressOf_indX_of_ioOnly (h : IoOnly s t) : addressOf .indX t = addressOf .indX s := by rw [h]; rfl

theorem addressOf_dp_of_ioOnly (h : IoOnly s t) : addressOf (.dp d) t = addressOf (.dp d) s := by rw [h]; rfl

theorem storeReg_storesOnlyAt (h : storeReg dst r s = .next t) : StoresOnlyAt (addressOf dst s) s t := by
  obtain ⟨a, s1, hea, -, rfl⟩ := storeReg_eq_next.mp h
  exact (StoresOnlyAt.of_mem (ea_ioOnly hea).mem).afterWrite (mem_addressOf hea)

/-- The source is read first; `hdst` says that this does not move the destination. -/
theorem operateMem_storesOnlyAt {op : Byte → Byte → State → Byte × State} (h : operateMem op dst o s = .next t)
    (hop : ∀ a m s, PswOnly s (op a m s).2) (hdst : ∀ {u}, IoOnly s u → addressOf dst u = addressOf dst s) :
    StoresOnlyAt (addressOf dst s) s t := by
  obtain ⟨m, s1, a, s2, hread, hea, -, -, rfl⟩ := operateMem_eq_next.mp h
  have hsrc := readOperand_ioOnly hread
  have hreads := (hsrc.trans (ea_ioOnly hea)).trans (afterRead_ioOnly s2 a)
  exact (StoresOnlyAt.of_mem ((hop _ m _).mem.trans hreads.mem)).afterWrite (hdst hsrc ▸ mem_addressOf hea)

theorem modifyMem_storesOnlyAt {op : Byte → State → Byte × State} (h : modifyMem op dst s = .next t)
    (hop : ∀ v s, PswOnly s (op v s).2) : StoresOnlyAt (addressOf dst s) s t := by
  obtain ⟨a, s1, hea, -, -, rfl⟩ := modifyMem_eq_next.mp h
  have hreads := (ea_ioOnly hea).trans (afterRead_ioOnly s1 a)
  exact (StoresOnlyAt.of_mem ((hop _ _).mem.trans hreads.mem)).afterWrite (mem_addressOf hea)

theorem execMovIndXIncA_storesOnlyAt (h : execMovIndXIncA s = .next t) :
    StoresOnlyAt (addressOf .indX s) s t := by
  obtain ⟨⟨a, s1⟩, hea, hrest⟩ := bind_eq_ok.mp (complete_eq_next.mp h)
  obtain ⟨s2, hwrite, hset⟩ := bind_eq_ok.mp hrest
  obtain ⟨-, rfl⟩ := writeByte_eq_ok.mp hwrite
  cases hset
  exact ((StoresOnlyAt.of_mem (ea_ioOnly hea).mem).afterWrite (mem_addressOf hea)).congr_mem rfl

theorem execMovDpDp_storesOnlyAt {src : Byte} (h : execMovDpDp d src s = .next t) :
    StoresOnlyAt (addressOf (.dp d) s) s t := by
  obtain ⟨⟨m, s1⟩, hread, hrest⟩ := bind_eq_ok.mp (complete_eq_next.mp h)
  obtain ⟨⟨a, s2⟩, hea, hwrite⟩ := bind_eq_ok.mp hrest
  obtain ⟨-, rfl⟩ := writeByte_eq_ok.mp hwrite
  have hsrc := readMode_ioOnly hread
  exact (StoresOnlyAt.of_mem (hsrc.trans (ea_ioOnly hea)).mem).afterWrite
    (addressOf_dp_of_ioOnly hsrc ▸ mem_addressOf hea)

theorem execMovDpImm_storesOnlyAt (h : execMovDpImm d imm s = .next t) :
    StoresOnlyAt (addressOf (.dp d) s) s t := by
  obtain ⟨⟨a, s1⟩, hea, hwrite⟩ := bind_eq_ok.mp (complete_eq_next.mp h)
  obtain ⟨-, rfl⟩ := writeByte_eq_ok.mp hwrite
  exact (StoresOnlyAt.of_mem (ea_ioOnly hea).mem).afterWrite (mem_addressOf hea)

theorem execDbnzDp_storesOnlyAt (h : execDbnzDp d rel s = .next t) : StoresOnlyAt (addressOf (.dp d) s) s t := by
  obtain ⟨⟨a, s1⟩, hea, hrest⟩ := bind_eq_ok.mp (complete_eq_next.mp h)
  obtain ⟨⟨v, s2⟩, hread, hrest⟩ := bind_eq_ok.mp hrest
  obtain ⟨s3, hwrite, hset⟩ := bind_eq_ok.mp hrest
  obtain ⟨-, rfl⟩ := writeByte_eq_ok.mp hwrite
  cases hset
  have hreads := (ea_ioOnly hea).trans (readByte_ioOnly hread)
  exact ((StoresOnlyAt.of_mem hreads.mem).afterWrite (mem_addressOf hea)).congr_mem (branchIf_mem _ _ rel)

/-! ## Stores of a direct-page word -/

theorem wordDPAddresses_of_psw (h : t.psw = s.psw) : wordDPAddresses t d = wordDPAddresses s d := by
  simp [wordDPAddresses, dp_of_psw h]

theorem execMovwDpYa_storesOnlyAt (h : execMovwDpYa d s = .next t) : StoresOnlyAt (wordDPAddresses s d) s t :=
  (StoresOnlyAt.refl s).writeWordDP (complete_eq_next.mp h)

theorem modifyWordDP_storesOnlyAt {f : Word → Word} (h : modifyWordDP f d s = .next t) :
    StoresOnlyAt (wordDPAddresses s d) s t := by
  obtain ⟨w, s1, s2, hread, hwrite, rfl⟩ := modifyWordDP_eq_next.mp h
  have hreads := readWordDP_ioOnly hread
  rw [← wordDPAddresses_of_psw hreads.psw]
  exact ((StoresOnlyAt.of_mem hreads.mem).writeWordDP hwrite).congr_mem (setNZ16_mem _ _)

/-! ## Stores to the stack -/

theorem pushByte_storesOnlyAt {v : Byte} (h : pushByte v s = .next t) : StoresOnlyAt (pushAddresses 1 s.sp) s t :=
  (StoresOnlyAt.refl s).push8 (by simp [pushAddresses]) (complete_eq_next.mp h)

/-- Pushing pc stores to the first two slots, and so to the first `n + 2`. -/
theorem pushPc_storesOnlyAt {n : Nat} (h : pushPc s = .ok t) : StoresOnlyAt (pushAddresses (n + 2) s.sp) s t := by
  obtain ⟨-, -, rfl⟩ := pushPc_eq_ok.mp h
  have hslot1 : stackAddr s.sp ∈ pushAddresses (n + 2) s.sp := by simp [pushAddresses]
  have hslot2 : stackAddr (s.sp - 1) ∈ pushAddresses (n + 2) s.sp := by simp [pushAddresses]
  exact (((StoresOnlyAt.refl s).afterWrite hslot1).afterWrite hslot2).congr_mem rfl

theorem execCallAbs_storesOnlyAt {addr : Addr} (h : execCallAbs addr s = .next t) :
    StoresOnlyAt (pushAddresses 2 s.sp) s t := by
  obtain ⟨s1, hpush, hset⟩ := bind_eq_ok.mp (complete_eq_next.mp h)
  cases hset
  exact (pushPc_storesOnlyAt hpush).congr_mem rfl

theorem execPcall_storesOnlyAt {upage : Byte} (h : execPcall upage s = .next t) :
    StoresOnlyAt (pushAddresses 2 s.sp) s t := by
  obtain ⟨s1, hpush, hset⟩ := bind_eq_ok.mp (complete_eq_next.mp h)
  cases hset
  exact (pushPc_storesOnlyAt hpush).congr_mem rfl

theorem execTcall_storesOnlyAt {n : Nat} (h : execTcall n s = .next t) :
    StoresOnlyAt (pushAddresses 2 s.sp) s t := by
  obtain ⟨s1, hpush, hrest⟩ := bind_eq_ok.mp (complete_eq_next.mp h)
  obtain ⟨⟨target, s2⟩, hread, hset⟩ := bind_eq_ok.mp hrest
  cases hset
  exact (pushPc_storesOnlyAt hpush).congr_mem (readWord_ioOnly hread).mem

/-- BRK: PCH, PCL and the PSW in the first three slots, then the vector is read (47_call_stack.md R473). -/
theorem execBrk_storesOnlyAt (h : execBrk s = .next t) : StoresOnlyAt (pushAddresses 3 s.sp) s t := by
  obtain ⟨s1, hpc, hrest⟩ := bind_eq_ok.mp (complete_eq_next.mp h)
  obtain ⟨s2, hpsw, hrest⟩ := bind_eq_ok.mp hrest
  obtain ⟨⟨target, s3⟩, hread, hset⟩ := bind_eq_ok.mp hrest
  cases hset
  have hsp : s1.sp = s.sp - 1 - 1 := by
    obtain ⟨-, -, rfl⟩ := pushPc_eq_ok.mp hpc
    show s.sp - 2 = _
    bv_omega
  have hslot : stackAddr s1.sp ∈ pushAddresses 3 s.sp := by simp [pushAddresses, hsp]
  exact ((pushPc_storesOnlyAt hpc).push8 hslot hpsw).congr_mem (readWord_ioOnly hread).mem

end MemoryFrame

/-! ## What each instruction stores to -/

/-- Every instruction leaves each byte outside the addresses that the table names; the cases stand by the shape of the
meaning. -/
theorem exec_storesOnlyAt {i : Instr} {s t : State} (h : exec i s = .next t) :
    StoresOnlyAt (storeAddresses s i) s t := by
  cases i with dsimp only [exec] at h
  | movAImm | movAIndX | movADp | movADpPlusX | movAAbs | movAAbsPlusX | movAAbsPlusY | movAIndDpX | movAIndDpPlusY
  | movXImm | movXDp | movXDpPlusY | movXAbs | movYImm | movYDp | movYDpPlusX | movYAbs =>
    exact .of_mem (loadReg_mem h)
  | movIndXA | movDpA | movDpPlusXA | movAbsA | movAbsPlusXA | movAbsPlusYA | movIndDpXA | movIndDpPlusYA
  | movDpX | movDpPlusYX | movAbsX | movDpY | movDpPlusXY | movAbsY =>
    exact storeReg_storesOnlyAt h
  | movAIndXInc => exact .of_mem (execMovAIndXInc_mem h)
  | movIndXIncA => exact execMovIndXIncA_storesOnlyAt h
  | movDpDp => exact execMovDpDp_storesOnlyAt h
  | movDpImm => exact execMovDpImm_storesOnlyAt h
  | movAX | movAY | movXA | movYA | movXSp | movSpX | incA | incX | incY | decA | decX | decY | aslA | lsrA | rolA
  | rorA | xcnA | divYaX | daaA | dasA | bra | jmpAbs | clrc | setc | notc | clrv | clrp | ei | di | nop | sleep
  | stop =>
    cases h
    exact .of_mem rfl
  | adcAImm | adcAIndX | adcADp | adcADpPlusX | adcAAbs | adcAAbsPlusX | adcAAbsPlusY | adcAIndDpX | adcAIndDpPlusY =>
    exact .of_mem (operateA_mem h adc8_pswOnly)
  | sbcAImm | sbcAIndX | sbcADp | sbcADpPlusX | sbcAAbs | sbcAAbsPlusX | sbcAAbsPlusY | sbcAIndDpX | sbcAIndDpPlusY =>
    exact .of_mem (operateA_mem h sbc8_pswOnly)
  | andAImm | andAIndX | andADp | andADpPlusX | andAAbs | andAAbsPlusX | andAAbsPlusY | andAIndDpX | andAIndDpPlusY =>
    exact .of_mem (operateA_mem h and8_pswOnly)
  | orAImm | orAIndX | orADp | orADpPlusX | orAAbs | orAAbsPlusX | orAAbsPlusY | orAIndDpX | orAIndDpPlusY =>
    exact .of_mem (operateA_mem h or8_pswOnly)
  | eorAImm | eorAIndX | eorADp | eorADpPlusX | eorAAbs | eorAAbsPlusX | eorAAbsPlusY | eorAIndDpX | eorAIndDpPlusY =>
    exact .of_mem (operateA_mem h eor8_pswOnly)
  | adcIndXIndY => exact operateMem_storesOnlyAt h adc8_pswOnly addressOf_indX_of_ioOnly
  | adcDpDp | adcDpImm => exact operateMem_storesOnlyAt h adc8_pswOnly addressOf_dp_of_ioOnly
  | sbcIndXIndY => exact operateMem_storesOnlyAt h sbc8_pswOnly addressOf_indX_of_ioOnly
  | sbcDpDp | sbcDpImm => exact operateMem_storesOnlyAt h sbc8_pswOnly addressOf_dp_of_ioOnly
  | andIndXIndY => exact operateMem_storesOnlyAt h and8_pswOnly addressOf_indX_of_ioOnly
  | andDpDp | andDpImm => exact operateMem_storesOnlyAt h and8_pswOnly addressOf_dp_of_ioOnly
  | orIndXIndY => exact operateMem_storesOnlyAt h or8_pswOnly addressOf_indX_of_ioOnly
  | orDpDp | orDpImm => exact operateMem_storesOnlyAt h or8_pswOnly addressOf_dp_of_ioOnly
  | eorIndXIndY => exact operateMem_storesOnlyAt h eor8_pswOnly addressOf_indX_of_ioOnly
  | eorDpDp | eorDpImm => exact operateMem_storesOnlyAt h eor8_pswOnly addressOf_dp_of_ioOnly
  | cmpAImm | cmpAIndX | cmpADp | cmpADpPlusX | cmpAAbs | cmpAAbsPlusX | cmpAAbsPlusY | cmpAIndDpX | cmpAIndDpPlusY
  | cmpXImm | cmpXDp | cmpXAbs | cmpYImm | cmpYDp | cmpYAbs =>
    exact .of_mem (compareReg_mem h)
  | cmpIndXIndY | cmpDpDp | cmpDpImm => exact .of_mem (compareMem_mem h)
  | incDp | incDpPlusX | incAbs => exact modifyMem_storesOnlyAt h inc8_pswOnly
  | decDp | decDpPlusX | decAbs => exact modifyMem_storesOnlyAt h dec8_pswOnly
  | aslDp | aslDpPlusX | aslAbs => exact modifyMem_storesOnlyAt h asl8_pswOnly
  | lsrDp | lsrDpPlusX | lsrAbs => exact modifyMem_storesOnlyAt h lsr8_pswOnly
  | rolDp | rolDpPlusX | rolAbs => exact modifyMem_storesOnlyAt h rol8_pswOnly
  | rorDp | rorDpPlusX | rorAbs => exact modifyMem_storesOnlyAt h ror8_pswOnly
  | set1 | clr1 | not1Mem | mov1MemC => exact modifyMem_storesOnlyAt h fun _ s => .refl s
  | tset1Abs | tclr1Abs => exact modifyMem_storesOnlyAt h testAgainstA_pswOnly
  | and1CMem | and1CNotMem | or1CMem | or1CNotMem | eor1CMem | mov1CMem => exact .of_mem (carryBit_mem h)
  | movwYaDp => exact .of_mem (execMovwYaDp_mem h)
  | movwDpYa => exact execMovwDpYa_storesOnlyAt h
  | incwDp | decwDp => exact modifyWordDP_storesOnlyAt h
  | addwYaDp => exact .of_mem (operateYa_mem h addw16_pswOnly)
  | subwYaDp => exact .of_mem (operateYa_mem h subw16_pswOnly)
  | cmpwYaDp => exact .of_mem (execCmpwYaDp_mem h)
  | mulYa =>
    cases h
    exact .of_mem (mulFlags16_pswOnly _ _).mem
  | beq | bne | bcs | bcc | bvs | bvc | bmi | bpl | dbnzY =>
    cases h
    exact .of_mem (branchIf_mem _ _ _)
  | bbs | bbc | cbneDp | cbneDpPlusX => exact .of_mem (branchOnByte_mem h)
  | dbnzDp => exact execDbnzDp_storesOnlyAt h
  | jmpIndAbsPlusX => exact .of_mem (execJmpIndAbsPlusX_mem h)
  | callAbs => exact execCallAbs_storesOnlyAt h
  | pcall => exact execPcall_storesOnlyAt h
  | tcall => exact execTcall_storesOnlyAt h
  | brk => exact execBrk_storesOnlyAt h
  | ret => exact .of_mem (popPc_mem (complete_eq_next.mp h))
  | ret1 => exact .of_mem (execRet1_mem h)
  | pushA | pushX | pushY | pushPsw => exact pushByte_storesOnlyAt h
  | popA | popX | popY => exact .of_mem (popReg_mem h)
  | popPsw => exact .of_mem (execPopPsw_mem h)
  | setp => exact .of_mem (execSetp_mem h)

/-- Settles O55, from `exec_storesOnlyAt`. -/
theorem instructionsStoreOnlyAtTheirAddresses : Obligations.InstructionsStoreOnlyAtTheirAddresses :=
  fun _ _ _ k h => exec_storesOnlyAt h k

end Sys2Proof.Machine
end

section
/-! PROOF. The address map (O58), the operand forms (O57) and the auto-increment moves (O2). -/

namespace Sys2Proof.Machine

/-! ## The regions of the address map -/

theorem region_of_le_ramTop {s : State} {a : Addr} (htop : s.cfg.ramTop.toNat < 0xFFC0)
    (ha : a.toNat ≤ s.cfg.ramTop.toNat) : s.region a = .ram := by
  have hrom : ¬ romBase ≤ a := by rw [BitVec.le_def]; exact Nat.not_le.mpr (Nat.lt_of_le_of_lt ha htop)
  rw [State.region, regionOf, if_neg hrom, if_pos (BitVec.le_def.mpr ha)]

theorem region_of_between {s : State} {a : Addr} (htop : s.cfg.ramTop.toNat < a.toNat) (ha : a.toNat < 0xFFC0) :
    s.region a = .unusable := by
  have hrom : ¬ romBase ≤ a := by rw [BitVec.le_def]; exact Nat.not_le.mpr ha
  have hram : ¬ a ≤ s.cfg.ramTop := by rw [BitVec.le_def]; exact Nat.not_le.mpr htop
  rw [State.region, regionOf, if_neg hrom, if_neg hram]

theorem region_of_romBase_le {s : State} {a : Addr} (ha : 0xFFC0 ≤ a.toNat) : s.region a = .rom :=
  if_pos (show romBase ≤ a from ha)

/-! ## One byte access, in and outside IO_REGION -/

theorem afterRead_of_not_isIo {s : State} {a : Addr} (hio : s.isIo a = false) : s.afterRead a = s := by
  simp [State.afterRead, hio]

theorem byteAt_of_not_isIo {s : State} {a : Addr} (hio : s.isIo a = false) :
    s.byteAt a = Memory.read s.mem a.toNat := by
  simp [State.byteAt, hio]

theorem stores_afterWrite (s : State) (a : Addr) (v : Byte) : Stores [(a, v)] s (s.afterWrite a v) :=
  stores_one (s := s) rfl rfl rfl rfl rfl

/-- A read of a readable cell answers it and changes nothing (20_memory.md R51). -/
theorem readByte_of_cell {s : State} {a : Addr} (hio : s.isIo a = false) (hr : s.readable a = true) :
    readByte a s = .ok (Memory.read s.mem a.toNat, s) := by
  rw [readByte_of_readable hr, byteAt_of_not_isIo hio, afterRead_of_not_isIo hio]

/-- A write of a writable cell stores the byte there and changes nothing else (20_memory.md R51). -/
theorem writeByte_of_cell {s : State} {a : Addr} {v : Byte} (hio : s.isIo a = false) (hw : s.writable a = true) :
    ∃ t, writeByte a v s = .ok t ∧ t = { s with mem := t.mem } ∧ Stores [(a, v)] s t :=
  ⟨s.afterWrite a v, writeByte_of_writable hw, by simp [State.afterWrite, hio], stores_afterWrite s a v⟩

/-- Settles O58: each clause is the region of its address, met by the access lemmas above. -/
theorem accessesFollowTheAddressMap : Obligations.AccessesFollowTheAddressMap := by
  intro s a v htop
  refine ⟨fun hio => ?_, fun hio ha => ?_, fun hio hlow hhigh hpol => ?_, fun hio hlow hhigh hpol => ?_,
    fun hio ha => ?_⟩
  · simp [readByte, writeByte, State.readable, State.writable, State.byteAt, State.afterRead, State.afterWrite, hio]
  · have hregion := region_of_le_ramTop htop ha
    have hw : s.writable a = true := by simp [State.writable, hregion]
    exact ⟨readByte_of_cell hio (readable_of_writable hw), writeByte_of_cell hio hw⟩
  · have hregion := region_of_between hlow hhigh
    simp [readByte, writeByte, State.readable, State.writable, hio, hregion, hpol]
  · have hregion := region_of_between hlow hhigh
    have hw : s.writable a = true := by simp [State.writable, hregion, hpol]
    exact ⟨readByte_of_cell hio (readable_of_writable hw), writeByte_of_cell hio hw⟩
  · have hregion := region_of_romBase_le (s := s) ha
    have hr : s.readable a = true := by simp [State.readable, hregion]
    refine ⟨readByte_of_cell hio hr, ?_⟩
    simp [writeByte, State.writable, hio, hregion]

/-! ## The operand forms -/

/-- The direct page is page 0 or page 1 (20_memory.md R62, R68). -/
theorem dp_toNat (s : State) (off : Byte) : (s.dp off).toNat = (if s.flag .p then 256 else 0) + off.toNat := by
  rw [State.dp, mkWord_toNat]
  cases s.flag .p <;> rfl

/-- A sum of bytes is the sum of the numbers modulo 256 (20_memory.md R70, R71). -/
theorem add_eq_ofNat8 (a b : Byte) : a + b = BitVec.ofNat 8 (a.toNat + b.toNat) := by
  rw [BitVec.ofNat_add, BitVec.ofNat_toNat, BitVec.ofNat_toNat, BitVec.setWidth_eq, BitVec.setWidth_eq]

/-- An address and an index sum modulo 65536 (20_memory.md R76, R77). -/
theorem add_zext16_eq_ofNat (a : Addr) (b : Byte) : a + zext16 b = BitVec.ofNat 16 (a.toNat + b.toNat) := by
  rw [BitVec.ofNat_add, BitVec.ofNat_toNat, BitVec.ofNat_toNat, BitVec.setWidth_eq, zext16]

/-- Settles O57: the forms without a pointer by their sums, `(dp)+Y` by the two reads of `readWordDP`, an operand by the
read at its address. -/
theorem addressingModesGiveTheirAddresses : Obligations.AddressingModesGiveTheirAddresses := by
  refine ⟨dp_toNat, fun s d addr => ?_, fun s d hlo hhi => ?_, fun _ _ => rfl, fun m a s s1 hea hr => ?_,
    fun _ _ => rfl⟩
  · simp only [ea, ← add_eq_ofNat8, ← add_zext16_eq_ofNat, and_self]
  · have hread := readWordDP_eq_ok.mpr ⟨hlo, hhi, rfl, rfl⟩
    refine ⟨_, _, hread, rfl, mkWord_toNat _ _, ?_⟩
    simp only [ea, hread, ok_bind, pure_eq_ok, afterRead_y, ← add_zext16_eq_ofNat]
  · have hr1 : s1.readable a = true := (readable_of_cfg (ea_ioOnly hea).cfg a).trans hr
    rw [readOperand, readMode, hea, ok_bind]
    exact readByte_of_readable hr1

/-! ## The auto-increment moves -/

theorem execMovAIndXInc_of_readable {s : State} (hr : s.readable (s.dp s.x) = true) :
    execMovAIndXInc s = .next (setNZ8 (s.byteAt (s.dp s.x))
      { s.afterRead (s.dp s.x) with x := s.x + 1, a := s.byteAt (s.dp s.x) }) := by
  simp only [execMovAIndXInc, readMode, ea, ok_bind, readByte_of_readable hr, afterRead_x, pure_eq_ok, complete]

theorem execMovIndXIncA_of_writable {s : State} (hw : s.writable (s.dp s.x) = true) :
    execMovIndXIncA s = .next { s.afterWrite (s.dp s.x) s.a with x := s.x + 1 } := by
  simp only [execMovIndXIncA, ea, ok_bind, writeByte_of_writable hw, afterWrite_x, pure_eq_ok, complete]

/-- Settles O2: the access is at DP(X) of the state before, and X is set after it (20_memory.md R74). -/
theorem autoIncrementMovesUseOldX : Obligations.AutoIncrementMovesUseOldX := by
  refine ⟨fun s hr => ?_, fun s hw => ?_⟩
  · refine ⟨_, execMovAIndXInc_of_readable hr, ?_, isNZ8_of (afterRead_psw s _) rfl⟩
    apply State.ext <;> simp
  · refine ⟨_, execMovIndXIncA_of_writable hw, ?_, stores_one (s := s) rfl rfl rfl rfl rfl⟩
    rw [afterWrite_memOnly s]

end Sys2Proof.Machine
end

section
/-! PROOF. The stack: PUSH (O37), POP (O38), and the returns, which take what a call or BRK left there (O59). -/

namespace Sys2Proof.Machine

/-! ## PUSH and POP -/

/-- Settles O37: the four forms are one push, of their register. -/
theorem pushStoresAtStackAddress : Obligations.PushStoresAtStackAddress := by
  intro s e he p hp hw
  obtain rfl : p = stackAddr s.sp := BitVec.eq_of_toNat_eq (by rw [hp, stackAddr_toNat])
  have hexec : exec e.1 s = pushByte e.2 s := by
    simp only [List.mem_cons, List.not_mem_nil, or_false] at he
    obtain rfl | rfl | rfl | rfl := he <;> rfl
  refine ⟨{ s.afterWrite (stackAddr s.sp) e.2 with sp := s.sp - 1 }, ?_, ?_, ?_,
    stores_one (s := s) rfl rfl rfl rfl rfl⟩
  · rw [hexec, pushByte, push8_of_writable hw, complete]
  · rw [afterWrite_memOnly s]
  · show (s.sp - 1).toNat = _
    bv_omega

/-- The address that POP names is the one above the stack pointer (20_memory.md R84). -/
theorem eq_stackAddr_succ {p : Addr} {sp : Byte} (hp : p.toNat = 0x0100 + (sp.toNat + 1) % 256) :
    p = stackAddr (sp + 1) := by
  apply BitVec.eq_of_toNat_eq
  rw [hp, stackAddr_toNat, BitVec.toNat_add]
  rfl

/-- Settles O38: the forms are one pop into their register. -/
theorem popReadsAfterIncrement : Obligations.PopReadsAfterIncrement := by
  refine ⟨fun s e he p hp hr => ?_, fun s p hp hr => ?_⟩
  · obtain rfl := eq_stackAddr_succ hp
    have hexec : exec e.1 s = popReg e.2 s := by
      simp only [List.mem_cons, List.not_mem_nil, or_false] at he
      obtain rfl | rfl | rfl := he <;> rfl
    rw [hexec, popReg, pop8_of_readable hr, ok_bind]
    cases e.2 <;> rfl
  · obtain rfl := eq_stackAddr_succ hp
    simp only [exec, execPopPsw, pop8_of_readable hr, ok_bind]
    rfl

/-! ## The returns -/

/-- The three slots of BRK (47_call_stack.md R473). -/
theorem pushAddresses_three (sp : Byte) :
    pushAddresses 3 sp = [stackAddr sp, stackAddr (sp - 1), stackAddr (sp - 2)] := by
  have hthird : sp - 1 - 1 = sp - 2 := by bv_omega
  simp only [pushAddresses, hthird]

/-- A byte stored at a cell that can be written is what the next read there answers (20_memory.md R51). -/
theorem readByte_of_stores {l : List (Addr × Byte)} {s t : State} {p : Addr} {v : Byte} (h : Stores l s t)
    (hcfg : t.cfg = s.cfg) (hmem : (p, v) ∈ l) (hslot : s.writable p = true ∧ s.isIo p = false) :
    readByte p t = .ok (v, t) := by
  obtain ⟨hw, hio⟩ := hslot
  have hr : t.readable p = true := (readable_of_cfg hcfg p).trans (readable_of_writable hw)
  obtain ⟨-, hback, -⟩ := h
  rw [readByte_of_cell ((isIo_of_cfg hcfg p).trans hio) hr, hback (p, v) hmem hio]

/-- Popping pc from two cells (20_memory.md R85). -/
theorem popPc_of_reads {s : State} {lo hi : Byte} (hlo : readByte (stackAddr (s.sp + 1)) s = .ok (lo, s))
    (hhi : readByte (stackAddr (s.sp + 2)) s = .ok (hi, s)) :
    popPc s = .ok { s with sp := s.sp + 2, pc := mkWord hi lo } := by
  obtain ⟨hr1, hb1, hs1⟩ := readByte_eq_ok.mp hlo
  obtain ⟨hr2, hb2, hs2⟩ := readByte_eq_ok.mp hhi
  refine (popPc_eq_ok rfl rfl).mpr ⟨hr1, hr2, ?_⟩
  rw [← hs1, ← hs2, ← hb1, ← hb2]

/-- Popping the PSW and pc from three cells (47_call_stack.md R475). -/
theorem leaveBreak_of_reads {s : State} {psw lo hi : Byte} (hpsw : readByte (stackAddr (s.sp + 1)) s = .ok (psw, s))
    (hlo : readByte (stackAddr (s.sp + 2)) s = .ok (lo, s)) (hhi : readByte (stackAddr (s.sp + 3)) s = .ok (hi, s)) :
    leaveBreak s = .ok { s with sp := s.sp + 3, psw := psw, pc := mkWord hi lo } := by
  obtain ⟨hr1, hb1, hs1⟩ := readByte_eq_ok.mp hpsw
  obtain ⟨hr2, hb2, hs2⟩ := readByte_eq_ok.mp hlo
  obtain ⟨hr3, hb3, hs3⟩ := readByte_eq_ok.mp hhi
  refine (leaveBreak_eq_ok rfl rfl rfl).mpr ⟨hr1, hr2, hr3, ?_⟩
  rw [← hs1, ← hs2, ← hs3, ← hb1, ← hb2, ← hb3]

/-- RET in a state whose stack holds what CALL pushed in `s` restores pc and SP (47_call_stack.md R474). -/
theorem exec_ret_of_stores {s t : State} (hcfg : t.cfg = s.cfg) (hsp : t.sp = s.sp - 2)
    (hslot : ∀ p ∈ pushAddresses 2 s.sp, s.writable p = true ∧ s.isIo p = false)
    (hst : Stores [(stackAddr s.sp, hiByte s.pc), (stackAddr (s.sp - 1), loByte s.pc)] s t) :
    exec .ret t = .next { t with pc := s.pc, sp := s.sp } := by
  have hsp1 : t.sp + 1 = s.sp - 1 := by bv_omega
  have hsp2 : t.sp + 2 = s.sp := by bv_omega
  have hlo : readByte (stackAddr (s.sp - 1)) t = .ok (loByte s.pc, t) :=
    readByte_of_stores hst hcfg (by simp) (hslot _ (by simp [pushAddresses]))
  have hhi : readByte (stackAddr s.sp) t = .ok (hiByte s.pc, t) :=
    readByte_of_stores hst hcfg (by simp) (hslot _ (by simp [pushAddresses]))
  have hpop := popPc_of_reads (hsp1.symm ▸ hlo) (hsp2.symm ▸ hhi)
  rw [mkWord_hiByte_loByte, hsp2] at hpop
  simp only [exec, execRet, hpop, complete]

/-- RET1 in a state whose stack holds what BRK pushed in `s` restores pc, SP and the PSW (47_call_stack.md R475). -/
theorem exec_ret1_of_stores {s t : State} (hcfg : t.cfg = s.cfg) (hsp : t.sp = s.sp - 3)
    (hslot : ∀ p ∈ pushAddresses 3 s.sp, s.writable p = true ∧ s.isIo p = false)
    (hst : Stores [(stackAddr s.sp, hiByte s.pc), (stackAddr (s.sp - 1), loByte s.pc), (stackAddr (s.sp - 2), s.psw)]
      s t) :
    exec .ret1 t = .next { t with pc := s.pc, sp := s.sp, psw := s.psw } := by
  have hsp1 : t.sp + 1 = s.sp - 2 := by bv_omega
  have hsp2 : t.sp + 2 = s.sp - 1 := by bv_omega
  have hsp3 : t.sp + 3 = s.sp := by bv_omega
  have hpsw : readByte (stackAddr (s.sp - 2)) t = .ok (s.psw, t) :=
    readByte_of_stores hst hcfg (by simp) (hslot _ (by simp [pushAddresses_three]))
  have hlo : readByte (stackAddr (s.sp - 1)) t = .ok (loByte s.pc, t) :=
    readByte_of_stores hst hcfg (by simp) (hslot _ (by simp [pushAddresses_three]))
  have hhi : readByte (stackAddr s.sp) t = .ok (hiByte s.pc, t) :=
    readByte_of_stores hst hcfg (by simp) (hslot _ (by simp [pushAddresses_three]))
  have hpop := leaveBreak_of_reads (hsp1.symm ▸ hpsw) (hsp2.symm ▸ hlo) (hsp3.symm ▸ hhi)
  rw [mkWord_hiByte_loByte, hsp3] at hpop
  simp only [exec, execRet1, hpop, complete]

/-- CALL, where its two slots can be written, completes with pc on the stack (47_call_stack.md R470). -/
theorem exec_callAbs_stores (addr : Addr) {s : State}
    (hslot : ∀ p ∈ pushAddresses 2 s.sp, s.writable p = true ∧ s.isIo p = false) :
    ∃ t, exec (.callAbs addr) s = .next t ∧ t.cfg = s.cfg ∧ t.sp = s.sp - 2 ∧
      Stores [(stackAddr s.sp, hiByte s.pc), (stackAddr (s.sp - 1), loByte s.pc)] s t := by
  obtain ⟨hw1, -⟩ := hslot (stackAddr s.sp) (by simp [pushAddresses])
  obtain ⟨hw2, -⟩ := hslot (stackAddr (s.sp - 1)) (by simp [pushAddresses])
  obtain ⟨u, hpush, hu, hst⟩ := pushPc_stores hw1 hw2
  refine ⟨{ u with pc := addr }, ?_, ?_, ?_, hst⟩
  · simp only [exec, execCallAbs, hpush, ok_bind, pure_eq_ok, complete]
  · show u.cfg = s.cfg
    rw [hu]
  · show u.sp = s.sp - 2
    rw [hu]

/-- BRK, where its three slots can be written and the vector read, completes with pc and the PSW on the stack
(47_call_stack.md R473). -/
theorem exec_brk_stores {s : State}
    (hslot : ∀ p ∈ pushAddresses 3 s.sp, s.writable p = true ∧ s.isIo p = false)
    (hv1 : s.readable s.cfg.brkVector = true) (hv2 : s.readable (s.cfg.brkVector + 1) = true) :
    ∃ t, exec .brk s = .next t ∧ t.cfg = s.cfg ∧ t.sp = s.sp - 3 ∧
      Stores [(stackAddr s.sp, hiByte s.pc), (stackAddr (s.sp - 1), loByte s.pc), (stackAddr (s.sp - 2), s.psw)]
        s t := by
  obtain ⟨hw1, -⟩ := hslot (stackAddr s.sp) (by simp [pushAddresses_three])
  obtain ⟨hw2, -⟩ := hslot (stackAddr (s.sp - 1)) (by simp [pushAddresses_three])
  obtain ⟨hw3, -⟩ := hslot (stackAddr (s.sp - 2)) (by simp [pushAddresses_three])
  obtain ⟨u, hu, -, hst, henter⟩ := enterBreak_stores hw1 hw2 hw3
  have hcfg : u.cfg = s.cfg := by rw [hu]
  have hsp : u.sp = s.sp - 3 := by rw [hu]
  obtain ⟨target, n, hread⟩ : ∃ target n, readWord s.cfg.brkVector u = .ok (target, { u with ioReads := n }) := by
    have hread := readWord_eq_ok.mpr
      ⟨(readable_of_cfg hcfg _).trans hv1, (readable_of_cfg hcfg _).trans hv2, rfl, rfl⟩
    exact ⟨_, _, by rw [hread, ← readWord_ioOnly hread]⟩
  refine ⟨{ u with ioReads := n, pc := target }, ?_, hcfg, hsp, hst⟩
  simp only [exec, execBrk, henter, hread, ok_bind, pure_eq_ok, complete]

/-- Settles O59: what CALL and BRK leave on the stack is what RET and RET1 take. -/
theorem returnsUndoCallsAndBrk : Obligations.ReturnsUndoCallsAndBrk := by
  refine ⟨fun addr s hslot => ?_, fun s hslot hv1 hv2 => ?_⟩
  · obtain ⟨t, hcall, hcfg, hsp, hst⟩ := exec_callAbs_stores addr hslot
    exact ⟨t, hcall, exec_ret_of_stores hcfg hsp hslot hst⟩
  · obtain ⟨t, hbrk, hcfg, hsp, hst⟩ := exec_brk_stores hslot hv1 hv2
    exact ⟨t, hbrk, exec_ret1_of_stores hcfg hsp hslot hst⟩

end Sys2Proof.Machine
end

section
/-! PROOF. The encoding (O45, O46, O47). Three facts about the opcode table carry the round trips: a code selects exactly
one row; the encoder writes the instructions of a row as the layout of the row says; every instruction is made by some
row. What the decoder takes from the bytes is `decode_eq_ok`. -/

namespace Sys2Proof

/-! ## The code byte: fixed low bits below a field -/

/-- The code byte that has the fixed bits `low` in its `k` low bits and the number `n` above them (30_encoding.md R110,
R111, R113). -/
def codeWithField (k : Nat) (low : Byte) (n : Nat) : Byte := (BitVec.ofNat 8 n <<< k) ||| low

section CodeWithField

variable {k n : Nat} {low code : Byte}

theorem codeWithField_toNat (hlow : low.toNat < 2 ^ k) (hn : n * 2 ^ k < 256) :
    (codeWithField k low n).toNat = n * 2 ^ k + low.toNat := by
  have hsmall : n < 256 := Nat.lt_of_le_of_lt (Nat.le_mul_of_pos_right n (Nat.two_pow_pos k)) hn
  rw [codeWithField, BitVec.toNat_or, BitVec.toNat_shiftLeft, BitVec.toNat_ofNat, Nat.mod_eq_of_lt hsmall,
    Nat.shiftLeft_eq, Nat.mod_eq_of_lt hn, ← Nat.shiftLeft_eq, Nat.shiftLeft_add_eq_or_of_lt hlow]

theorem codeWithField_mod (hlow : low.toNat < 2 ^ k) (hn : n * 2 ^ k < 256) :
    (codeWithField k low n).toNat % 2 ^ k = low.toNat := by
  rw [codeWithField_toNat hlow hn, Nat.mul_add_mod_self_right, Nat.mod_eq_of_lt hlow]

theorem codeWithField_ushiftRight (hlow : low.toNat < 2 ^ k) (hn : n * 2 ^ k < 256) :
    (codeWithField k low n >>> k).toNat = n := by
  rw [BitVec.toNat_ushiftRight, codeWithField_toNat hlow hn, Nat.shiftRight_eq_div_pow, Nat.add_comm,
    Nat.add_mul_div_right _ _ (Nat.two_pow_pos k), Nat.div_eq_of_lt hlow, Nat.zero_add]

/-- A code is its field above its fixed bits. -/
theorem codeWithField_of_ushiftRight (h : code.toNat % 2 ^ k = low.toNat) :
    codeWithField k low (code >>> k).toNat = code := by
  have hlow : low.toNat < 2 ^ k := h ▸ Nat.mod_lt _ (Nat.two_pow_pos k)
  have hsplit : (code >>> k).toNat * 2 ^ k + low.toNat = code.toNat := by
    rw [BitVec.toNat_ushiftRight, Nat.shiftRight_eq_div_pow, ← h, Nat.div_add_mod']
  apply BitVec.eq_of_toNat_eq
  rw [codeWithField_toNat hlow (by omega), hsplit]

end CodeWithField

/-- The bits 7..5 of a code are a bit number (30_encoding.md R110). -/
theorem bitOk_ushiftRight (code : Byte) : bitOk (code >>> 5).toNat = true := by
  rw [bitOk, decide_eq_true_iff, BitVec.toNat_ushiftRight, Nat.shiftRight_eq_div_pow]
  omega

/-- The bits 7..4 of a code are a vector call number (30_encoding.md R113). -/
theorem callNumberOk_ushiftRight (code : Byte) : callNumberOk (code >>> 4).toNat = true := by
  rw [callNumberOk, decide_eq_true_iff, BitVec.toNat_ushiftRight, Nat.shiftRight_eq_div_pow]
  omega

/-! ## A code selects exactly one row -/

/-- How many low bits of the code the layout fixes; the bits above them are an operand (30_encoding.md R110, R111,
R113). -/
def Layout.fixedBits : Layout → Nat
  | .bitdp _ | .bitdprel _ => 5
  | .tcall _ => 4
  | _ => 8

/-- The mask of a row is the fixed bits of its layout, and its pattern lies in them. -/
theorem mask_of_mem_opcodeTable : ∀ row ∈ opcodeTable, row.mask.toNat = 2 ^ row.layout.fixedBits - 1 ∧
    row.pattern.toNat < 2 ^ row.layout.fixedBits := by
  decide +kernel

/-- A code selects a row by its fixed bits. -/
theorem selects_iff_mod {row : OpcodeRow} (hrow : row ∈ opcodeTable) (code : Byte) :
    row.selects code = true ↔ code.toNat % 2 ^ row.layout.fixedBits = row.pattern.toNat := by
  obtain ⟨hmask, -⟩ := mask_of_mem_opcodeTable row hrow
  rw [OpcodeRow.selects, beq_iff_eq, ← BitVec.toNat_inj, BitVec.toNat_and, hmask, Nat.and_two_pow_sub_one_eq_mod]

/-- Each of the 256 codes selects one row and no other (30_encoding.md R117, R119). -/
theorem countP_selects (code : Byte) : opcodeTable.countP (·.selects code) = 1 := by
  have hcount : ∀ c < 256, opcodeTable.countP (fun row => c % 2 ^ row.layout.fixedBits == row.pattern.toNat) = 1 := by
    decide +kernel
  rw [← hcount code.toNat code.isLt]
  exact List.countP_congr fun row hrow => (selects_iff_mod hrow code).trans beq_iff_eq.symm

/-- The row found for a code is the row of the table that the code selects. -/
theorem rowOf_eq_some_iff {row : OpcodeRow} {code : Byte} :
    rowOf code = some row ↔ row ∈ opcodeTable ∧ row.selects code = true := by
  obtain ⟨only, honly⟩ : ∃ only, opcodeTable.filter (·.selects code) = [only] := by
    rw [← List.length_eq_one_iff, ← List.countP_eq_length_filter, countP_selects]
  have hmem : row ∈ opcodeTable ∧ row.selects code = true ↔ row = only := by
    rw [← List.mem_singleton (a := row), ← honly, List.mem_filter]
  rw [hmem, rowOf, ← List.head?_filter, honly, List.head?_singleton, Option.some_inj, eq_comm]

/-! ## The encoder writes the instructions of each row by its layout -/

/-- The encoder writes `bytes` for the instruction, which is well-formed if `ok`. -/
structure EncodesAs (i : Instr) (bytes : List Byte) (ok : Bool) : Prop where
  encode_eq : encode i = bytes
  wf_eq : i.wf = ok

/-- The instructions that the layout makes are encoded by its rule, with the fixed bits `low` in the code, and are
well-formed where their operands have no more bits than the rule gives them (30_encoding.md R102 to R114). -/
def Layout.Encodes (low : Byte) : Layout → Prop
  | .imp make => EncodesAs make [low] true
  | .imm make | .dp make | .rel make | .upage make => ∀ b, EncodesAs (make b) [low, b] true
  | .abs make => ∀ addr, EncodesAs (make addr) (encodeWord low addr) true
  | .dpdp make | .dpimm make => ∀ b1 b2, EncodesAs (make b1 b2) [low, b2, b1] true
  | .dprel make => ∀ d rel, EncodesAs (make d rel) [low, d, rel] true
  | .bitdp make => ∀ bit d, EncodesAs (make bit d) [codeWithField 5 low bit, d] (bitOk bit)
  | .bitdprel make => ∀ bit d rel, EncodesAs (make bit d rel) [codeWithField 5 low bit, d, rel] (bitOk bit)
  | .membit make => ∀ addr bit,
      EncodesAs (make addr bit) (encodeWord low (Machine.packMemBit addr bit)) (memBitAddrOk addr && bitOk bit)
  | .tcall make => ∀ n, EncodesAs (make n) [codeWithField 4 low n] (callNumberOk n)

/-- The table and the encoder agree on every row. -/
theorem encodes_of_mem_opcodeTable : ∀ row ∈ opcodeTable, row.layout.Encodes row.pattern := by
  simp only [opcodeTable, rowsMov8, rowsArith8, rowsLogic8, rowsIncDecShift, rowsWord16, rowsMulDiv, rowsBranch,
    rowsCallStack, rowsBit, rowsPswMisc, List.forall_mem_append, List.forall_mem_cons, List.not_mem_nil,
    IsEmpty.forall_iff, implies_true, and_true, Layout.Encodes]
  and_intros
  all_goals intros; exact ⟨rfl, rfl⟩

/-- A code without a field is its fixed bits. -/
theorem eq_of_mod_eight {code low : Byte} (h : code.toNat % 2 ^ 8 = low.toNat) : code = low :=
  BitVec.eq_of_toNat_eq (Nat.mod_eq_of_lt code.isLt ▸ h)

/-- Encoding what a layout reads gives back the bytes that it looks at, and what it reads is well-formed: no bit of
theirs is dropped. -/
theorem Layout.Encodes.encodesAs_read {l : Layout} {low code : Byte} (henc : l.Encodes low)
    (hcode : code.toNat % 2 ^ l.fixedBits = low.toNat) (op1 op2 : Byte) :
    EncodesAs (l.read code op1 op2) (code :: [op1, op2].take (l.length - 1)) true := by
  cases l with
  | imp make =>
    obtain rfl := eq_of_mod_eight hcode
    exact henc
  | imm make | dp make | rel make | upage make =>
    obtain rfl := eq_of_mod_eight hcode
    exact henc op1
  | abs make =>
    obtain rfl := eq_of_mod_eight hcode
    simpa [Layout.read, Layout.length, encodeWord_eq] using henc (Machine.mkWord op2 op1)
  | dpdp make | dpimm make =>
    obtain rfl := eq_of_mod_eight hcode
    exact henc op2 op1
  | dprel make =>
    obtain rfl := eq_of_mod_eight hcode
    exact henc op1 op2
  | membit make =>
    obtain rfl := eq_of_mod_eight hcode
    have h := henc (Machine.memBitAddr (Machine.mkWord op2 op1)) (Machine.memBitNo (Machine.mkWord op2 op1))
    simpa [Layout.read, Layout.length, Machine.packMemBit_unpack, encodeWord_eq, memBitAddrOk, bitOk,
      Machine.memBitAddr_lt, Machine.memBitNo_lt] using h
  | bitdp make =>
    have h := henc (code >>> 5).toNat op1
    rwa [codeWithField_of_ushiftRight (k := 5) hcode, bitOk_ushiftRight] at h
  | bitdprel make =>
    have h := henc (code >>> 5).toNat op1 op2
    rwa [codeWithField_of_ushiftRight (k := 5) hcode, bitOk_ushiftRight] at h
  | tcall make =>
    have h := henc (code >>> 4).toNat
    rwa [codeWithField_of_ushiftRight (k := 4) hcode, callNumberOk_ushiftRight] at h

/-! ## Every instruction is made by a row -/

/-- The instruction is one that the layout makes, of operands of any size. -/
inductive Layout.Makes : Layout → Instr → Prop
  | imp (make) : Makes (.imp make) make
  | imm (make b) : Makes (.imm make) (make b)
  | dp (make d) : Makes (.dp make) (make d)
  | abs (make addr) : Makes (.abs make) (make addr)
  | dpdp (make dst src) : Makes (.dpdp make) (make dst src)
  | dpimm (make d imm) : Makes (.dpimm make) (make d imm)
  | rel (make r) : Makes (.rel make) (make r)
  | dprel (make d r) : Makes (.dprel make) (make d r)
  | bitdp (make bit d) : Makes (.bitdp make) (make bit d)
  | bitdprel (make bit d r) : Makes (.bitdprel make) (make bit d r)
  | membit (make addr bit) : Makes (.membit make) (make addr bit)
  | tcall (make n) : Makes (.tcall make) (make n)
  | upage (make u) : Makes (.upage make) (make u)

/-- The rows of the table stand in the order of the constructors of `Instr`. -/
theorem getElem?_ctorIdx_makes (i : Instr) : ∃ row, opcodeTable[i.ctorIdx]? = some row ∧ row.layout.Makes i := by
  cases i
  all_goals exact ⟨_, rfl, by constructor⟩

/-- A layout reads each well-formed instruction that it makes from some bytes whose code has the fixed bits `low`. -/
theorem Layout.Makes.exists_read_eq {l : Layout} {i : Instr} {low : Byte} (hmakes : l.Makes i) (henc : l.Encodes low)
    (hlow : low.toNat < 2 ^ l.fixedBits) (hwf : i.wf = true) :
    ∃ code op1 op2, code.toNat % 2 ^ l.fixedBits = low.toNat ∧ l.read code op1 op2 = i := by
  have hself := Nat.mod_eq_of_lt hlow
  cases hmakes with
  | imp => exact ⟨low, 0, 0, hself, rfl⟩
  | imm _ b | dp _ b | rel _ b | upage _ b => exact ⟨low, b, 0, hself, rfl⟩
  | abs make addr =>
    exact ⟨low, Machine.loByte addr, Machine.hiByte addr, hself, congrArg make (Machine.mkWord_hiByte_loByte addr)⟩
  | dpdp _ b1 b2 | dpimm _ b1 b2 => exact ⟨low, b2, b1, hself, rfl⟩
  | dprel _ d r => exact ⟨low, d, r, hself, rfl⟩
  | membit make addr bit =>
    obtain ⟨haddr, hbit⟩ : addr.toNat < 8192 ∧ bit < 8 := by
      simpa [(henc addr bit).wf_eq, memBitAddrOk, bitOk] using hwf
    refine ⟨low, Machine.loByte (Machine.packMemBit addr bit), Machine.hiByte (Machine.packMemBit addr bit), hself, ?_⟩
    rw [Layout.read, Machine.mkWord_hiByte_loByte, Machine.memBitAddr_pack bit haddr, Machine.memBitNo_pack addr hbit]
  | bitdp make bit d =>
    have hbit : bit < 8 := by simpa [(henc bit d).wf_eq, bitOk] using hwf
    have hfits : bit * 2 ^ 5 < 256 := by omega
    exact ⟨codeWithField 5 low bit, d, 0, codeWithField_mod hlow hfits,
      congrArg (make · d) (codeWithField_ushiftRight hlow hfits)⟩
  | bitdprel make bit d r =>
    have hbit : bit < 8 := by simpa [(henc bit d r).wf_eq, bitOk] using hwf
    have hfits : bit * 2 ^ 5 < 256 := by omega
    exact ⟨codeWithField 5 low bit, d, r, codeWithField_mod hlow hfits,
      congrArg (make · d r) (codeWithField_ushiftRight hlow hfits)⟩
  | tcall make n =>
    have hn : n < 16 := by simpa [(henc n).wf_eq, callNumberOk] using hwf
    have hfits : n * 2 ^ 4 < 256 := by omega
    exact ⟨codeWithField 4 low n, 0, 0, codeWithField_mod hlow hfits,
      congrArg make (codeWithField_ushiftRight hlow hfits)⟩

/-- Every well-formed instruction is what a row of the table reads from bytes whose code selects the row
(30_encoding.md R117). -/
theorem exists_row_read_eq {i : Instr} (hwf : i.wf = true) : ∃ row ∈ opcodeTable, ∃ code op1 op2,
    row.selects code = true ∧ row.layout.read code op1 op2 = i := by
  obtain ⟨row, hidx, hmakes⟩ := getElem?_ctorIdx_makes i
  have hrow := List.mem_of_getElem? hidx
  obtain ⟨-, hlow⟩ := mask_of_mem_opcodeTable row hrow
  obtain ⟨code, op1, op2, hcode, hread⟩ := hmakes.exists_read_eq (encodes_of_mem_opcodeTable row hrow) hlow hwf
  exact ⟨row, hrow, code, op1, op2, (selects_iff_mod hrow code).mpr hcode, hread⟩

/-! ## The round trips -/

/-- The bytes that a row reads for an instruction are the encoding of the instruction. -/
theorem encodesAs_read_of_selects {row : OpcodeRow} {code : Byte} (hrow : row ∈ opcodeTable)
    (hsel : row.selects code = true) (op1 op2 : Byte) :
    EncodesAs (row.layout.read code op1 op2) (code :: [op1, op2].take (row.layout.length - 1)) true :=
  (encodes_of_mem_opcodeTable row hrow).encodesAs_read ((selects_iff_mod hrow code).mp hsel) op1 op2

/-- The length counts the code and the operand bytes that are looked at (30_encoding.md R101). -/
theorem Layout.length_eq_length_take (l : Layout) (op1 op2 : Byte) :
    l.length = ([op1, op2].take (l.length - 1)).length + 1 := by
  cases l <;> rfl

/-- Operand bytes past the length are not looked at (30_encoding.md R101). -/
theorem Layout.read_take (l : Layout) (code op1 op2 : Byte) :
    l.read code (([op1, op2].take (l.length - 1)).getD 0 0) (([op1, op2].take (l.length - 1)).getD 1 0) =
      l.read code op1 op2 := by
  cases l <;> rfl

/-- Decoding takes the bytes that the row of the code reads and leaves those after them (30_encoding.md R101). -/
theorem decode_of_selects {row : OpcodeRow} {code : Byte} (hrow : row ∈ opcodeTable) (hsel : row.selects code = true)
    (op1 op2 : Byte) (rest : List Byte) :
    decode (code :: ([op1, op2].take (row.layout.length - 1) ++ rest)) = .ok (row.layout.read code op1 op2, rest) :=
  decode_eq_ok.mpr ⟨code, _, row, rfl, rowOf_eq_some_iff.mpr ⟨hrow, hsel⟩,
    row.layout.length_eq_length_take op1 op2, (row.layout.read_take code op1 op2).symm⟩

/-- Settles O46: the instruction is what some row reads from some bytes, these are its encoding, and the decoder answers
what that row reads from them. -/
theorem decodeOfEncodeIsIdentity : Obligations.DecodeOfEncodeIsIdentity := by
  intro i rest hwf
  obtain ⟨row, hrow, code, op1, op2, hsel, rfl⟩ := exists_row_read_eq hwf
  rw [(encodesAs_read_of_selects hrow hsel op1 op2).encode_eq, List.cons_append]
  exact decode_of_selects hrow hsel op1 op2 rest

/-- Settles O47: the row of the code reads the instruction from the front of the three bytes, and the encoding of what it
reads is that front. -/
theorem everyCodeDecodesAndReencodes : Obligations.EveryCodeDecodesAndReencodes := by
  intro code op1 op2
  obtain ⟨row, hrowOf⟩ := Option.isSome_iff_exists.mp (rowOf_isSome code)
  obtain ⟨hrow, hsel⟩ := rowOf_eq_some_iff.mp hrowOf
  obtain ⟨hencode, hwf⟩ := encodesAs_read_of_selects hrow hsel op1 op2
  refine ⟨row.layout.read code op1 op2, [op1, op2].drop (row.layout.length - 1), ?_, hwf, ?_, ?_⟩
  · rw [← decode_of_selects hrow hsel, List.take_append_drop]
  · rw [hencode, List.cons_append, List.take_append_drop]
  · rw [hencode, read_length_of_rowOf hrowOf]
    exact (row.layout.length_eq_length_take op1 op2).symm

/-- Settles O45: each word is what the encoder writes for its instruction, so O46 decodes it. -/
theorem knownWordsDecode : Obligations.KnownWordsDecode := by
  intro e he
  obtain ⟨hencode, hwf⟩ : encode e.2 = e.1 ∧ e.2.wf = true := by
    revert e
    decide
  rw [← hencode, ← decodeOfEncodeIsIdentity e.2 [] hwf, List.append_nil]

end Sys2Proof
end

section
/-! PROOF. The 8-bit moves (O1, O3, O4, O5): each form runs one of the shapes load, store and move between registers, and
the statement is shown once of the shape. -/

namespace Sys2Proof.Machine

/-! ## Loads and moves between registers -/

theorem setReg_psw (r : Reg) (v : Byte) (s : State) : (s.setReg r v).psw = s.psw := by cases r <;> rfl

/-- A register written after reads is the register written before them, with the reads counted. -/
theorem IoOnly.setReg {s t : State} (h : IoOnly s t) (r : Reg) (v : Byte) :
    t.setReg r v = { s.setReg r v with ioReads := t.ioReads } := by
  rw [h]
  cases r <;> rfl

/-- A load whose operand can be read completes (40_mov8.md R200). -/
theorem loadReg_of_read {r : Reg} {o : Operand} {s s1 : State} {m : Byte} (hread : readOperand o s = .ok (m, s1)) :
    ∃ t, loadReg r o s = .next t ∧ t = { s.setReg r m with psw := t.psw, ioReads := s1.ioReads } ∧ IsNZ8 m s t := by
  have hio := readOperand_ioOnly hread
  refine ⟨setNZ8 m (s1.setReg r m), loadReg_eq_next.mpr ⟨m, s1, hread, rfl⟩, ?_, ?_⟩
  · rw [setNZ8_pswOnly m (s1.setReg r m), hio.setReg]
  · exact isNZ8_of ((setReg_psw r m s1).trans hio.psw) rfl

/-- A move between registers completes (40_mov8.md R200). -/
theorem moveReg_completes (r : Reg) (v : Byte) (s : State) :
    ∃ t, moveReg r v s = .next t ∧ t = { s.setReg r v with psw := t.psw } ∧ IsNZ8 v s t :=
  ⟨_, rfl, setNZ8_pswOnly v (s.setReg r v), isNZ8_of (setReg_psw r v s) rfl⟩

/-- Settles O1: the 17 forms are one load, of their register from their operand. -/
theorem loadWritesRegisterAndNZ : Obligations.LoadWritesRegisterAndNZ := by
  intro d imm addr s s1 m e he hread
  have hexec : exec e.1 s = loadReg e.2.1 e.2.2 s := by
    fin_cases he <;> rfl
  rw [hexec]
  exact loadReg_of_read hread

/-- Settles O4: five forms are one move, into their register; MOV SP,X writes SP alone. -/
theorem registerMovesCopyAndSetNZ : Obligations.RegisterMovesCopyAndSetNZ := by
  refine ⟨fun s e he => ?_, fun _ => rfl⟩
  have hexec : exec e.1 s = moveReg e.2.1 e.2.2 s := by
    fin_cases he <;> rfl
  rw [hexec]
  exact moveReg_completes e.2.1 e.2.2 s

/-! ## Stores -/

theorem IoOnly.ioLog {s t : State} (h : IoOnly s t) : t.ioLog = s.ioLog := by rw [h]

theorem IoOnly.reg {s t : State} (h : IoOnly s t) (r : Reg) : t.reg r = s.reg r := by
  rw [h]
  cases r <;> rfl

/-- A write after reads: one byte stored, and the reads counted. -/
theorem IoOnly.afterWrite_stores {s s1 : State} (h : IoOnly s s1) (a : Addr) (v : Byte) :
    s1.afterWrite a v = { s with
      mem := (s1.afterWrite a v).mem, ioLog := (s1.afterWrite a v).ioLog, ioReads := s1.ioReads } ∧
    Stores [(a, v)] s (s1.afterWrite a v) := by
  refine ⟨?_, stores_one h.cfg h.mem h.ioLog rfl rfl⟩
  rw [afterWrite_memOnly s1, h]

/-- A store whose address can be written completes (40_mov8.md R219 to R233). -/
theorem storeReg_of_ea {dst : Mode} {r : Reg} {s s1 : State} {a : Addr} (hea : ea dst s = .ok (a, s1))
    (hw : s.writable a = true) :
    ∃ t, storeReg dst r s = .next t ∧ t = { s with mem := t.mem, ioLog := t.ioLog, ioReads := s1.ioReads } ∧
      Stores [(a, s.reg r)] s t := by
  have hio := ea_ioOnly hea
  have hw1 : s1.writable a = true := (writable_of_cfg hio.cfg a).trans hw
  exact ⟨s1.afterWrite a (s.reg r), storeReg_eq_next.mpr ⟨a, s1, hea, hw1, by rw [hio.reg]⟩,
    hio.afterWrite_stores a (s.reg r)⟩

/-- Settles O3: the 14 forms are one store, of their register to their operand. -/
theorem storeWritesOneByte : Obligations.StoreWritesOneByte := by
  intro d addr s s1 a e he hea hw
  have hexec : exec e.1 s = storeReg e.2.1 e.2.2 s := by
    fin_cases he <;> rfl
  rw [hexec]
  exact storeReg_of_ea hea hw

/-! ## Moves into memory -/

theorem execMovDpDp_of_readable {dst src : Byte} {s : State} (hr : s.readable (s.dp src) = true)
    (hw : s.writable (s.dp dst) = true) : execMovDpDp dst src s =
      .next ((s.afterRead (s.dp src)).afterWrite (s.dp dst) (s.byteAt (s.dp src))) := by
  have hw1 : (s.afterRead (s.dp src)).writable (s.dp dst) = true := (writable_afterRead s _ _).trans hw
  simp only [execMovDpDp, readMode, ea, ok_bind, readByte_of_readable hr, dp_afterRead, writeByte_of_writable hw1,
    complete]

theorem execMovDpImm_of_writable {d imm : Byte} {s : State} (hw : s.writable (s.dp d) = true) :
    execMovDpImm d imm s = .next (s.afterWrite (s.dp d) imm) := by
  simp only [execMovDpImm, ea, ok_bind, writeByte_of_writable hw, complete]

/-- Settles O5: the source is read first, which does not move the destination; the immediate needs no read. -/
theorem memoryMovesWriteDestinationOnly : Obligations.MemoryMovesWriteDestinationOnly := by
  refine ⟨fun dst src s hr hw => ?_, fun d imm s hw => ?_⟩
  · exact ⟨_, execMovDpDp_of_readable hr hw, (afterRead_ioOnly s _).afterWrite_stores _ _⟩
  · exact ⟨_, execMovDpImm_of_writable hw, afterWrite_memOnly s _ _, stores_afterWrite s _ _⟩

end Sys2Proof.Machine
end

section
/-! PROOF. 8-bit arithmetic (O6 to O12): SBC is ADC of the complement; each form of ADC, SBC and CMP runs one of the shapes
of Machine/Operands.lean, and the statement is shown once of the shape, for every operation that meets a description. -/

namespace Sys2Proof.Machine

/-! ## Subtraction as addition of the complement -/

/-- The two results agree: -m is the complement plus 1, and the borrow is 1 - C. -/
theorem sbc8_result_eq (a m : Byte) (s : State) : (sbc8 a m s).1 = (adc8 a (~~~m) s).1 := by
  rw [sbc8_value, adc8_value]
  cases s.flag .c <;> simp <;> bv_omega

/-- No borrow out of bit 7 is a carry out of bit 7. -/
theorem no_borrow_iff_carry (a m : Byte) (c : Bool) :
    m.toNat + (!c).toNat ≤ a.toNat ↔ 255 < a.toNat + (~~~m).toNat + c.toNat := by
  have hm := m.isLt
  rw [BitVec.toNat_not]
  cases c <;> simp <;> omega

/-- No borrow out of bit 3 is a carry out of bit 3. -/
theorem no_half_borrow_iff_half_carry (a m : Byte) (c : Bool) :
    m.toNat % 16 + (!c).toNat ≤ a.toNat % 16 ↔ 15 < a.toNat % 16 + (~~~m).toNat % 16 + c.toNat := by
  have hm := m.isLt
  rw [BitVec.toNat_not]
  cases c <;> simp <;> omega

/-- Settles O10: the results agree, and flag by flag the states do. -/
theorem subtractionIsAdditionOfComplement : Obligations.SubtractionIsAdditionOfComplement := by
  intro a m s
  refine Prod.ext (sbc8_result_eq a m s) ?_
  have hpsw : (sbc8 a m s).2.psw = (adc8 a (~~~m) s).2.psw := psw_ext fun f => by
    have hv : (a.msb != m.msb) = (a.msb == (~~~m).msb) := by
      rw [BitVec.msb_not]
      cases a.msb <;> cases m.msb <;> rfl
    rw [sbc8_flag, adc8_flag, sbc8_result_eq, hv, decide_eq_decide.mpr (no_borrow_iff_carry a m _),
      decide_eq_decide.mpr (no_half_borrow_iff_half_carry a m _)]
  rw [sbc8_pswOnly a m s, adc8_pswOnly a (~~~m) s, hpsw]

/-! ## Destinations in memory -/

/-- The form names the address `a`, reads nothing to find it, and still names it after other reads. -/
def Mode.Names (dst : Mode) (a : Addr) (s : State) : Prop := ∀ t, IoOnly s t → ea dst t = .ok (a, t)

theorem indX_names (s : State) : Mode.indX.Names (s.dp s.x) s := fun t h => by
  rw [ea, dp_of_psw h.psw, h.x]

theorem dp_names (d : Byte) (s : State) : (Mode.dp d).Names (s.dp d) s := fun t h => by
  rw [ea, dp_of_psw h.psw]

/-- The three memory forms of a command, (X),(Y) and dp,dp and dp,#inm, run one shape, each at the destination that it
names (41_arith8.md R253). -/
theorem exists_mode_of_memoryForm {run : Mode → Operand → State → Result} {i j k : Instr} {d off imm : Byte}
    {s : State} (hi : exec i s = run .indX (.mem .indY) s) (hj : exec j s = run (.dp d) (.mem (.dp off)) s)
    (hk : exec k s = run (.dp d) (.imm imm) s) {e : Instr × Addr × Operand}
    (he : e ∈ [(i, s.dp s.x, .mem .indY), (j, s.dp d, .mem (.dp off)), (k, s.dp d, .imm imm)]) :
    ∃ mode : Mode, exec e.1 s = run mode e.2.2 s ∧ mode.Names e.2.1 s := by
  fin_cases he
  · exact ⟨.indX, hi, indX_names s⟩
  · exact ⟨.dp d, hj, dp_names d s⟩
  · exact ⟨.dp d, hk, dp_names d s⟩

/-! ## Operations with two operands -/

theorem PswOnly.cfg {s t : State} (h : PswOnly s t) : t.cfg = s.cfg := by rw [h]

theorem PswOnly.ioLog {s t : State} (h : PswOnly s t) : t.ioLog = s.ioLog := by rw [h]

/-- The operation writes the PSW at most, and `Spec a m s t r` describes its result `r` on `a` and `m` wherever the PSW
was that of `s` before and is that of `t` after. -/
structure Meets (op : Byte → Byte → State → Byte × State) (Spec : Byte → Byte → State → State → Byte → Prop) :
    Prop where
  pswOnly : ∀ a m s, PswOnly s (op a m s).2
  result : ∀ {a m s s1 t}, s1.psw = s.psw → t.psw = (op a m s1).2.psw → Spec a m s t (op a m s1).1

/-- ADC (41_arith8.md R250). -/
theorem adc8_meets : Meets adc8 IsAdc8 := ⟨adc8_pswOnly, isAdc8_of⟩

/-- SBC (41_arith8.md R251). -/
theorem sbc8_meets : Meets sbc8 IsSbc8 := ⟨sbc8_pswOnly, isSbc8_of⟩

/-! ## The shapes -/

section Shapes

variable {op : Byte → Byte → State → Byte × State} {Spec : Byte → Byte → State → State → Byte → Prop}
  {r : Reg} {dst : Mode} {src : Operand} {a : Addr} {m : Byte} {s s1 : State}

/-- An operation into A whose operand can be read completes. -/
theorem operateA_of_read (hop : Meets op Spec) (hread : readOperand src s = .ok (m, s1)) :
    ∃ t, operateA op src s = .next t ∧ t = { s with a := t.a, psw := t.psw, ioReads := s1.ioReads } ∧
      Spec s.a m s t t.a := by
  have hio := readOperand_ioOnly hread
  refine ⟨_, operateA_eq_next.mpr ⟨m, s1, hread, rfl⟩, ?_, hio.a ▸ hop.result hio.psw rfl⟩
  rw [hop.pswOnly s1.a m s1, hio]

/-- A comparison of a register whose operand can be read completes (41_arith8.md R252). -/
theorem compareReg_of_read (hread : readOperand src s = .ok (m, s1)) :
    ∃ t, compareReg r src s = .next t ∧ t = { s with psw := t.psw, ioReads := s1.ioReads } ∧
      IsCmp8 (s.reg r) m s t := by
  have hio := readOperand_ioOnly hread
  refine ⟨_, compareReg_eq_next.mpr ⟨m, s1, hread, rfl⟩, ?_, hio.reg r ▸ isCmp8_of hio.psw rfl⟩
  rw [cmp8_pswOnly (s1.reg r) m s1, hio]

/-- An operation into memory completes where its source can be read and its destination written; the source is read
first (41_arith8.md R253). -/
theorem operateMem_of_read (hop : Meets op Spec) (hdst : dst.Names a s) (hread : readOperand src s = .ok (m, s1))
    (hw : s.writable a = true) :
    ∃ t r, operateMem op dst src s = .next t ∧
      t = { s with psw := t.psw, mem := t.mem, ioLog := t.ioLog, ioReads := (s1.afterRead a).ioReads } ∧
      Spec (s1.byteAt a) m s t r ∧ Stores [(a, r)] s t := by
  have hsrc := readOperand_ioOnly hread
  have hio := hsrc.trans (afterRead_ioOnly s1 a)
  have hpsw := hop.pswOnly (s1.byteAt a) m (s1.afterRead a)
  have hcfg := hpsw.cfg.trans hio.cfg
  have hr1 : s1.readable a = true := (readable_of_cfg hsrc.cfg a).trans (readable_of_writable hw)
  refine ⟨_, _, operateMem_eq_next.mpr
    ⟨m, s1, a, s1, hread, hdst s1 hsrc, hr1, (writable_of_cfg hcfg a).trans hw, rfl⟩, ?_,
    hop.result hio.psw (afterWrite_psw _ a _), stores_one hcfg (hpsw.mem.trans hio.mem)
      (hpsw.ioLog.trans hio.ioLog) rfl rfl⟩
  rw [afterWrite_memOnly, hpsw, hio]

/-- A comparison in memory completes where both operands can be read; the source is read first (41_arith8.md R253). -/
theorem compareMem_of_read (hdst : dst.Names a s) (hread : readOperand src s = .ok (m, s1))
    (hr : s.readable a = true) :
    ∃ t, compareMem dst src s = .next t ∧ t = { s with psw := t.psw, ioReads := (s1.afterRead a).ioReads } ∧
      IsCmp8 (s1.byteAt a) m s t := by
  have hsrc := readOperand_ioOnly hread
  have hio := hsrc.trans (afterRead_ioOnly s1 a)
  have hread2 : readMode dst s1 = .ok (s1.byteAt a, s1.afterRead a) := by
    rw [readMode, hdst s1 hsrc, ok_bind]
    exact readByte_of_readable ((readable_of_cfg hsrc.cfg a).trans hr)
  refine ⟨_, compareMem_eq_next.mpr ⟨m, s1, _, _, hread, hread2, rfl⟩, ?_, isCmp8_of hio.psw rfl⟩
  rw [cmp8_pswOnly (s1.byteAt a) m (s1.afterRead a), hio]

end Shapes

/-! ## The obligations about instructions -/

/-- Settles O6: the nine forms are one operation into A, of `adc8` and their operand. -/
theorem adcIntoAccumulator : Obligations.AdcIntoAccumulator := by
  intro d imm addr s s1 m e he hread
  have hexec : exec e.1 s = operateA adc8 e.2 s := by
    fin_cases he <;> rfl
  rw [hexec]
  exact operateA_of_read adc8_meets hread

/-- Settles O7: the nine forms are one operation into A, of `sbc8` and their operand. -/
theorem sbcIntoAccumulator : Obligations.SbcIntoAccumulator := by
  intro d imm addr s s1 m e he hread
  have hexec : exec e.1 s = operateA sbc8 e.2 s := by
    fin_cases he <;> rfl
  rw [hexec]
  exact operateA_of_read sbc8_meets hread

/-- Settles O8: the three forms are one operation into memory, each at the destination that it names. -/
theorem adcIntoMemory : Obligations.AdcIntoMemory := by
  intro dst src imm s s1 m e he hread hw
  obtain ⟨mode, hexec, hdst⟩ := exists_mode_of_memoryForm (run := operateMem adc8) rfl rfl rfl he
  rw [hexec]
  exact operateMem_of_read adc8_meets hdst hread hw

/-- Settles O9: the three forms are one operation into memory, each at the destination that it names. -/
theorem sbcIntoMemory : Obligations.SbcIntoMemory := by
  intro dst src imm s s1 m e he hread hw
  obtain ⟨mode, hexec, hdst⟩ := exists_mode_of_memoryForm (run := operateMem sbc8) rfl rfl rfl he
  rw [hexec]
  exact operateMem_of_read sbc8_meets hdst hread hw

/-- Settles O11: the 15 forms are one comparison, of their register with their operand. -/
theorem compareRegisterWritesNZC : Obligations.CompareRegisterWritesNZC := by
  intro d imm addr s s1 m e he hread
  have hexec : exec e.1 s = compareReg e.2.1 e.2.2 s := by
    fin_cases he <;> rfl
  rw [hexec]
  exact compareReg_of_read hread

/-- Settles O12: the three forms are one comparison in memory, each with the destination that it names. -/
theorem compareMemoryWritesNZC : Obligations.CompareMemoryWritesNZC := by
  intro dst src imm s s1 m e he hread hr
  obtain ⟨mode, hexec, hdst⟩ := exists_mode_of_memoryForm (run := compareMem) rfl rfl rfl he
  rw [hexec]
  exact compareMem_of_read hdst hread hr

end Sys2Proof.Machine
end

section
/-! PROOF. 8-bit logic (O13, O14): AND, OR and EOR meet one description, so what is shown of the shapes `operateA` and
`operateMem` for every described operation holds of each form. -/

namespace Sys2Proof.Machine

/-- The result `r` is `f` of the operands, and N and Z are of it, no other flag (42_logic8.md R300). -/
def IsLogic8 (f : Byte → Byte → Byte) (a m : Byte) (s t : State) (r : Byte) : Prop := r = f a m ∧ IsNZ8 r s t

/-- AND (42_logic8.md R301 to R312). -/
theorem and8_meets : Meets and8 (IsLogic8 fun a m => a &&& m) :=
  ⟨and8_pswOnly, fun hs ht => ⟨rfl, isNZ8_of hs ht⟩⟩

/-- OR (42_logic8.md R313 to R324). -/
theorem or8_meets : Meets or8 (IsLogic8 fun a m => a ||| m) :=
  ⟨or8_pswOnly, fun hs ht => ⟨rfl, isNZ8_of hs ht⟩⟩

/-- EOR (42_logic8.md R325 to R336). -/
theorem eor8_meets : Meets eor8 (IsLogic8 fun a m => a ^^^ m) :=
  ⟨eor8_pswOnly, fun hs ht => ⟨rfl, isNZ8_of hs ht⟩⟩

/-- Settles O13: the 27 forms are nine operations into A of each of the three logic operations. -/
theorem logicIntoAccumulator : Obligations.LogicIntoAccumulator := by
  intro d imm addr s s1 m e he hread
  obtain ⟨op, hop, hexec⟩ : ∃ op, Meets op (IsLogic8 e.2.2) ∧ exec e.1 s = operateA op e.2.1 s := by
    fin_cases he
    iterate 9 exact ⟨and8, and8_meets, rfl⟩
    iterate 9 exact ⟨or8, or8_meets, rfl⟩
    iterate 9 exact ⟨eor8, eor8_meets, rfl⟩
  obtain ⟨t, hrun, ht, ha, hnz⟩ := operateA_of_read hop hread
  rw [hexec, ← ha]
  exact ⟨t, hrun, ht, hnz⟩

/-- Settles O14: each of the three logic operations has a form at DP(X) and two at an offset. -/
theorem logicIntoMemory : Obligations.LogicIntoMemory := by
  intro dst src imm s s1 m e he hread hw
  obtain ⟨op, mode, hop, hexec, hdst⟩ : ∃ op mode, Meets op (IsLogic8 e.2.2.2) ∧
      exec e.1 s = operateMem op mode e.2.2.1 s ∧ mode.Names e.2.1 s := by
    fin_cases he
    · exact ⟨and8, .indX, and8_meets, rfl, indX_names s⟩
    iterate 2 exact ⟨and8, .dp dst, and8_meets, rfl, dp_names dst s⟩
    · exact ⟨or8, .indX, or8_meets, rfl, indX_names s⟩
    iterate 2 exact ⟨or8, .dp dst, or8_meets, rfl, dp_names dst s⟩
    · exact ⟨eor8, .indX, eor8_meets, rfl, indX_names s⟩
    iterate 2 exact ⟨eor8, .dp dst, eor8_meets, rfl, dp_names dst s⟩
  obtain ⟨t, r, hrun, ht, ⟨rfl, hnz⟩, hstores⟩ := operateMem_of_read hop hdst hread hw
  exact ⟨t, hexec.trans hrun, ht, hnz, hstores⟩

end Sys2Proof.Machine
end

section
/-! PROOF. INC, DEC, the shifts and XCN (O15 to O19): each form runs one of the two shapes with one operand, `modifyReg`
and `modifyMem`; the statement is shown once of the shape, for every operation that meets a description, and what is left
is the arithmetic of the seven operations. -/

namespace Sys2Proof.Machine

/-! ## The results as numbers -/

/-- Setting a bit that is clear adds its weight. -/
theorem withBit_toNat_of_clear {m : Byte} {b : Nat} (v : Bool) (hb : b < 8) (hclear : testBit8 m b = false) :
    (withBit m b v).toNat = m.toNat + 2 ^ b * v.toNat := by
  rw [testBit8] at hclear
  have hweight : 1#8 <<< b = BitVec.twoPow 8 b := (BitVec.twoPow_eq 8 b).symm
  have hdisjoint : m &&& BitVec.twoPow 8 b = 0#8 := by
    rw [BitVec.and_twoPow, if_neg (Bool.eq_false_iff.mp hclear)]
  have hkeep : m &&& ~~~BitVec.twoPow 8 b = m := BitVec.eq_of_getLsbD_eq fun i hi => by
    by_cases hib : i = b
    · rw [BitVec.getLsbD_and, hib, hclear, Bool.false_and]
    · simp [hi, hib]
  rw [withBit, hweight, hkeep]
  cases v with
  | false => simp
  | true =>
    rw [if_pos rfl, ← BitVec.add_eq_or_of_and_eq_zero _ _ hdisjoint, BitVec.toNat_add_of_and_eq_zero hdisjoint,
      BitVec.toNat_twoPow_of_lt hb, Bool.toNat_true, Nat.mul_one]

theorem inc8_toNat (v : Byte) (s : State) : (inc8 v s).1.toNat = (v.toNat + 1) % 256 := BitVec.toNat_add v 1

theorem dec8_toNat (v : Byte) (s : State) : (dec8 v s).1.toNat = (v.toNat + 255) % 256 := by
  rw [dec8, BitVec.toNat_sub, Nat.add_comm]
  rfl

/-- One place to the left doubles modulo 256. -/
theorem shiftLeft_one_toNat (v : Byte) : (v <<< 1).toNat = 2 * v.toNat % 256 := by
  rw [BitVec.toNat_shiftLeft, Nat.shiftLeft_eq, Nat.mul_comm]

/-- One place to the right halves. -/
theorem ushiftRight_one_toNat (v : Byte) : (v >>> 1).toNat = v.toNat / 2 := by
  rw [BitVec.toNat_ushiftRight, Nat.shiftRight_eq_div_pow]

theorem rol8_toNat (v : Byte) (s : State) :
    (rol8 v s).1.toNat = (2 * v.toNat + (s.flag .c).toNat) % 256 := by
  have hclear : testBit8 (v <<< 1) 0 = false := by simp [testBit8]
  rw [rol8, withBit_toNat_of_clear _ (by decide) hclear, shiftLeft_one_toNat]
  have hc := Bool.toNat_le (s.flag .c)
  omega

theorem ror8_toNat (v : Byte) (s : State) : (ror8 v s).1.toNat = v.toNat / 2 + 128 * (s.flag .c).toNat := by
  have hclear : testBit8 (v >>> 1) 7 = false := by simp [testBit8]
  rw [ror8, withBit_toNat_of_clear _ (by decide) hclear, ushiftRight_one_toNat]
  rfl

/-- The two halves meet no bit of each other, so joining them adds them. -/
theorem xcn8_toNat (v : Byte) (s : State) : (xcn8 v s).1.toNat = v.toNat % 16 * 16 + v.toNat / 16 := by
  have hdisjoint : v <<< 4 &&& v >>> 4 = 0#8 := BitVec.eq_of_getLsbD_eq fun i hi => by
    by_cases h4 : i < 4
    · simp [h4]
    · simp [BitVec.getLsbD_of_ge v (4 + i) (by omega)]
  rw [xcn8, ← BitVec.add_eq_or_of_and_eq_zero _ _ hdisjoint, BitVec.toNat_add_of_and_eq_zero hdisjoint,
    BitVec.toNat_shiftLeft, BitVec.toNat_ushiftRight, Nat.shiftLeft_eq, Nat.shiftRight_eq_div_pow]
  omega

/-! ## Operations with one operand -/

/-- The operation writes the PSW at most, and `Spec v s t r` describes its result `r` on `v` wherever the PSW was that of
`s` before and is that of `t` after. -/
structure MeetsUnary (op : Byte → State → Byte × State) (Spec : Byte → State → State → Byte → Prop) : Prop where
  pswOnly : ∀ v s, PswOnly s (op v s).2
  result : ∀ {v s s1 t}, s1.psw = s.psw → t.psw = (op v s1).2.psw → Spec v s t (op v s1).1

/-- The result `r` is `f` of the operand as a number, and N and Z are of it, no other flag (43_incdec_shift.md R350,
R383). -/
def IsUnary8 (f : Nat → Nat) (v : Byte) (s t : State) (r : Byte) : Prop := r.toNat = f v.toNat ∧ IsNZ8 r s t

/-- The result `r` is `f` of the operand as a number and of the old C, C takes the operand's bit `out`, and N and Z are
of the result, no other flag (43_incdec_shift.md R351 to R354). -/
def IsShiftOf8 (f : Nat → Nat → Nat) (out : Nat) (v : Byte) (s t : State) (r : Byte) : Prop :=
  r.toNat = f v.toNat (s.flag .c).toNat ∧ IsShift8 r (testBit8 v out) s t

/-- INC (43_incdec_shift.md R350). -/
theorem inc8_meets : MeetsUnary inc8 (IsUnary8 fun n => (n + 1) % 256) :=
  ⟨inc8_pswOnly, fun hs ht => ⟨inc8_toNat _ _, isNZ8_of hs ht⟩⟩

/-- DEC (43_incdec_shift.md R350). -/
theorem dec8_meets : MeetsUnary dec8 (IsUnary8 fun n => (n + 255) % 256) :=
  ⟨dec8_pswOnly, fun hs ht => ⟨dec8_toNat _ _, isNZ8_of hs ht⟩⟩

/-- XCN (43_incdec_shift.md R383). -/
theorem xcn8_meets : MeetsUnary xcn8 (IsUnary8 fun n => n % 16 * 16 + n / 16) :=
  ⟨xcn8_pswOnly, fun hs ht => ⟨xcn8_toNat _ _, isNZ8_of hs ht⟩⟩

/-- ASL (43_incdec_shift.md R351). -/
theorem asl8_meets : MeetsUnary asl8 (IsShiftOf8 (fun n _ => 2 * n % 256) 7) :=
  ⟨asl8_pswOnly, fun {v _ _ _} hs ht => ⟨shiftLeft_one_toNat v, byte_msb v ▸ isShift8_of hs ht⟩⟩

/-- LSR (43_incdec_shift.md R352). -/
theorem lsr8_meets : MeetsUnary lsr8 (IsShiftOf8 (fun n _ => n / 2) 0) :=
  ⟨lsr8_pswOnly, fun {v _ _ _} hs ht => ⟨ushiftRight_one_toNat v, isShift8_of hs ht⟩⟩

/-- ROL (43_incdec_shift.md R353). -/
theorem rol8_meets : MeetsUnary rol8 (IsShiftOf8 (fun n c => (2 * n + c) % 256) 7) :=
  ⟨rol8_pswOnly, fun {v _ s1 _} hs ht =>
    ⟨flag_congr hs .c ▸ rol8_toNat v s1, byte_msb v ▸ isShift8_of hs ht⟩⟩

/-- ROR (43_incdec_shift.md R354). -/
theorem ror8_meets : MeetsUnary ror8 (IsShiftOf8 (fun n c => n / 2 + 128 * c) 0) :=
  ⟨ror8_pswOnly, fun {v _ s1 _} hs ht => ⟨flag_congr hs .c ▸ ror8_toNat v s1, isShift8_of hs ht⟩⟩

/-! ## The shapes -/

section Shapes

variable {op : Byte → State → Byte × State} {Spec : Byte → State → State → Byte → Prop} {dst : Mode} {a : Addr}
  {s : State}

theorem PswOnly.setReg {t : State} (h : PswOnly s t) (r : Reg) (v : Byte) :
    t.setReg r v = { s.setReg r v with psw := (t.setReg r v).psw } := by
  rw [h]
  cases r <;> rfl

/-- A register is modified in every state (43_incdec_shift.md R355 to R383). -/
theorem modifyReg_completes (hop : MeetsUnary op Spec) (r : Reg) (s : State) :
    ∃ t v, modifyReg op r s = .next t ∧ t = { s.setReg r v with psw := t.psw } ∧ Spec (s.reg r) s t v :=
  ⟨_, _, rfl, (hop.pswOnly (s.reg r) s).setReg r _, hop.result rfl (setReg_psw r _ _)⟩

/-- A is modified in every state. -/
theorem modifyA_completes (hop : MeetsUnary op Spec) (s : State) :
    ∃ t, modifyReg op .a s = .next t ∧ t = { s with a := t.a, psw := t.psw } ∧ Spec s.a s t t.a := by
  obtain ⟨t, v, hrun, ht, hspec⟩ := modifyReg_completes hop .a s
  obtain rfl : t.a = v := by rw [ht]; rfl
  exact ⟨t, hrun, ht, hspec⟩

/-- A byte that can be written is modified: one read and one write of its address (43_incdec_shift.md R356 to R382). -/
theorem modifyMem_of_writable (hop : MeetsUnary op Spec) (hea : ea dst s = .ok (a, s)) (hw : s.writable a = true) :
    ∃ t r, modifyMem op dst s = .next t ∧
      t = { s with psw := t.psw, mem := t.mem, ioLog := t.ioLog, ioReads := (s.afterRead a).ioReads } ∧
      Spec (s.byteAt a) s t r ∧ Stores [(a, r)] s t := by
  have hio := afterRead_ioOnly s a
  have hpsw := hop.pswOnly (s.byteAt a) (s.afterRead a)
  have hcfg := hpsw.cfg.trans hio.cfg
  refine ⟨_, _, modifyMem_eq_next.mpr
    ⟨a, s, hea, readable_of_writable hw, (writable_of_cfg hcfg a).trans hw, rfl⟩, ?_,
    hop.result hio.psw (afterWrite_psw _ a _),
    stores_one hcfg (hpsw.mem.trans hio.mem) (hpsw.ioLog.trans hio.ioLog) rfl rfl⟩
  rw [afterWrite_memOnly, hpsw, hio]

end Shapes

/-! ## The obligations -/

/-- Settles O15: the six forms are INC and DEC of their register. -/
theorem incrementDecrementRegisters : Obligations.IncrementDecrementRegisters := by
  intro s e he
  obtain ⟨op, f, hop, hexec, hf⟩ : ∃ op f, MeetsUnary op (IsUnary8 f) ∧ exec e.1 s = modifyReg op e.2.1 s ∧
      f (s.reg e.2.1).toNat = e.2.2 := by
    fin_cases he
    iterate 3 exact ⟨inc8, _, inc8_meets, rfl, rfl⟩
    iterate 3 exact ⟨dec8, _, dec8_meets, rfl, rfl⟩
  obtain ⟨t, r, hrun, ht, hr, hnz⟩ := modifyReg_completes hop e.2.1 s
  exact ⟨t, r, hexec.trans hrun, hr.trans hf, ht, hnz⟩

/-- Settles O16: INC and DEC each have a form at DP(d), at DP(d+X) and at an absolute address, none of which needs a read
to find its address. -/
theorem incrementDecrementMemory : Obligations.IncrementDecrementMemory := by
  intro d addr s e he hw
  obtain ⟨op, dst, hop, hexec, hea⟩ : ∃ op dst, MeetsUnary op (IsUnary8 fun n => (n + e.2.2) % 256) ∧
      exec e.1 s = modifyMem op dst s ∧ ea dst s = .ok (e.2.1, s) := by
    fin_cases he
    iterate 3 exact ⟨inc8, _, inc8_meets, rfl, rfl⟩
    iterate 3 exact ⟨dec8, _, dec8_meets, rfl, rfl⟩
  obtain ⟨t, r, hrun, ht, ⟨hr, hnz⟩, hstores⟩ := modifyMem_of_writable hop hea hw
  exact ⟨t, r, hexec.trans hrun, hr, ht, hnz, hstores⟩

/-- Settles O17: the four forms are the four shifts, of A. -/
theorem shiftAccumulator : Obligations.ShiftAccumulator := by
  intro s e he
  obtain ⟨op, hop, hexec⟩ : ∃ op, MeetsUnary op (IsShiftOf8 e.2.1 e.2.2) ∧ exec e.1 s = modifyReg op .a s := by
    fin_cases he
    exacts [⟨asl8, asl8_meets, rfl⟩, ⟨lsr8, lsr8_meets, rfl⟩, ⟨rol8, rol8_meets, rfl⟩, ⟨ror8, ror8_meets, rfl⟩]
  rw [hexec]
  exact modifyA_completes hop s

/-- Settles O18: each of the four shifts has a form at DP(d), at DP(d+X) and at an absolute address. -/
theorem shiftMemory : Obligations.ShiftMemory := by
  intro d addr s e he hw
  obtain ⟨op, dst, hop, hexec, hea⟩ : ∃ op dst, MeetsUnary op (IsShiftOf8 e.2.2.1 e.2.2.2) ∧
      exec e.1 s = modifyMem op dst s ∧ ea dst s = .ok (e.2.1, s) := by
    fin_cases he
    iterate 3 exact ⟨asl8, _, asl8_meets, rfl, rfl⟩
    iterate 3 exact ⟨lsr8, _, lsr8_meets, rfl, rfl⟩
    iterate 3 exact ⟨rol8, _, rol8_meets, rfl, rfl⟩
    iterate 3 exact ⟨ror8, _, ror8_meets, rfl, rfl⟩
  obtain ⟨t, r, hrun, ht, ⟨hr, hshift⟩, hstores⟩ := modifyMem_of_writable hop hea hw
  exact ⟨t, r, hexec.trans hrun, ht, hr, hshift, hstores⟩

/-- Settles O19: XCN modifies A. -/
theorem xcnExchangesNibbles : Obligations.XcnExchangesNibbles := fun s => modifyA_completes xcn8_meets s

end Sys2Proof.Machine
end

section
/-! PROOF. The 16-bit commands (O20 to O24). Each reads or writes one direct-page word: reading it leaves the state as it was
but for the count of the answers of IO_REGION, and writing it stores two bytes at different addresses. What is left is
the arithmetic of ADDW, SUBW and CMPW on YA as one number. -/

namespace Sys2Proof.Machine

/-! ## YA -/

/-- YA as a number (10_state.md R24). -/
theorem ya_toNat (s : State) : s.ya.toNat = 256 * s.y.toNat + s.a.toNat := mkWord_toNat s.y s.a

/-- The sign of YA is the sign of Y. -/
theorem ya_getLsbD_15 (s : State) : s.ya.getLsbD 15 = testBit8 s.y 7 := getLsbD_mkWord s.y s.a 15

theorem IoOnly.ya {s t : State} (h : IoOnly s t) : t.ya = s.ya := by rw [h]; rfl

/-- YA written after reads is YA written before them, with the reads counted. -/
theorem IoOnly.setYa {s t : State} (h : IoOnly s t) (w : Word) :
    t.setYa w = { s.setYa w with ioReads := t.ioReads } := by
  rw [h]
  rfl

/-! ## Writing a direct-page word -/

/-- The two bytes of a direct-page word are at different addresses, also where the second wraps (20_memory.md R80). -/
theorem dp_ne_dp_succ (s : State) (d : Byte) : s.dp d ≠ s.dp (d + 1) := fun h => by
  obtain ⟨-, hd⟩ := mkWord_inj.mp h
  bv_omega

/-- A direct-page word written after reads: two bytes stored, and the reads counted (20_memory.md R80). -/
theorem IoOnly.writeWordDP_stores {d : Byte} {s s1 : State} (h : IoOnly s s1) (w : Word)
    (hlo : s.writable (s.dp d) = true) (hhi : s.writable (s.dp (d + 1)) = true) :
    ∃ u, writeWordDP d w s1 = .ok u ∧ u = { s with mem := u.mem, ioLog := u.ioLog, ioReads := s1.ioReads } ∧
      Stores [(s.dp d, loByte w), (s.dp (d + 1), hiByte w)] s u := by
  have hdp (off : Byte) : s1.dp off = s.dp off := dp_of_psw h.psw off
  obtain ⟨hfirst, hstore⟩ := h.afterWrite_stores (s.dp d) (loByte w)
  refine ⟨(s1.afterWrite (s.dp d) (loByte w)).afterWrite (s.dp (d + 1)) (hiByte w), ?_, ?_, ?_⟩
  · rw [writeWordDP_eq_ok, hdp, hdp, writable_of_cfg h.cfg, writable_of_cfg h.cfg]
    exact ⟨hlo, hhi, rfl⟩
  · rw [afterWrite_memOnly (s1.afterWrite (s.dp d) (loByte w)), hfirst]
  · exact hstore.snoc (by simpa using dp_ne_dp_succ s d) (by rw [hfirst]) rfl rfl

/-! ## Operations on YA and a word -/

/-- The flags of an addition or subtraction: N and Z of the result after C, H and V were written. -/
theorem isWordSum_of {r : Word} {c h v : Bool} {s s1 u : State} (hs : s1.psw = s.psw)
    (hu : u.psw = (setNZ16 r (((s1.setFlag .c c).setFlag .h h).setFlag .v v)).psw) :
    IsWordSum r c v s u ∧ u.flag .h = h := by
  have hflag := flag_congr hu
  refine ⟨⟨(isNZ16_of rfl hu).1, ?_, ?_, flagsKept_of hs hu fun f hf => ?_⟩, ?_⟩
  · simp [hflag]
  · simp [hflag]
  · cases f <;> simp_all
  · simp [hflag]

/-- ADDW gives `r` and the flags N V H Z C (44_word16.md R391). -/
def IsAddw16 (ya w : Word) (s t : State) (r : Word) : Prop :=
  r.toNat = (ya.toNat + w.toNat) % 65536 ∧
  IsWordSum r (decide (65535 < ya.toNat + w.toNat))
    (ya.getLsbD 15 == w.getLsbD 15 && r.getLsbD 15 != ya.getLsbD 15) s t ∧
  t.flag .h = decide (2 ^ (s.cfg.h16Bit.val + 1) ≤
    ya.toNat % 2 ^ (s.cfg.h16Bit.val + 1) + w.toNat % 2 ^ (s.cfg.h16Bit.val + 1))

/-- SUBW gives `r` and the flags N V H Z C (44_word16.md R392). -/
def IsSubw16 (ya w : Word) (s t : State) (r : Word) : Prop :=
  r.toNat = (ya.toNat + 65536 - w.toNat) % 65536 ∧
  IsWordSum r (decide (w.toNat ≤ ya.toNat))
    (ya.getLsbD 15 != w.getLsbD 15 && r.getLsbD 15 != ya.getLsbD 15) s t ∧
  t.flag .h = decide (w.toNat % 2 ^ (s.cfg.h16Bit.val + 1) ≤ ya.toNat % 2 ^ (s.cfg.h16Bit.val + 1))

/-- The operation writes the PSW at most, and `Spec ya w s t r` describes its result `r` on `ya` and `w` wherever reads led
from `s` to the state before it and `t` has the PSW after it. -/
structure MeetsWord (op : Word → Word → State → Word × State) (Spec : Word → Word → State → State → Word → Prop) :
    Prop where
  pswOnly : ∀ ya w s, PswOnly s (op ya w s).2
  result : ∀ {ya w s s1 t}, IoOnly s s1 → t.psw = (op ya w s1).2.psw → Spec ya w s t (op ya w s1).1

/-- The difference modulo 65536 as a number. -/
theorem word_sub_toNat (ya w : Word) : (ya - w).toNat = (ya.toNat + 65536 - w.toNat) % 65536 := by
  have hw := w.isLt
  rw [BitVec.toNat_sub]
  omega

/-- ADDW (44_word16.md R391). -/
theorem addw16_meets : MeetsWord addw16 IsAddw16 where
  pswOnly := addw16_pswOnly
  result {ya w s s1 t} hio ht := by
    refine ⟨by rw [addw16_value, BitVec.toNat_add], ?_⟩
    rw [← hio.cfg, ← word_msb, ← word_msb, ← word_msb]
    exact isWordSum_of hio.psw ht

/-- SUBW (44_word16.md R392). -/
theorem subw16_meets : MeetsWord subw16 IsSubw16 where
  pswOnly := subw16_pswOnly
  result {ya w s s1 t} hio ht := by
    refine ⟨by rw [subw16_value, word_sub_toNat], ?_⟩
    rw [← hio.cfg, ← word_msb, ← word_msb, ← word_msb]
    exact isWordSum_of hio.psw ht

/-- The flags of CMPW: N and Z of the difference, and C where CMPW_WRITES_C says so (44_word16.md R399, log 16). -/
theorem isCmpw16_of {ya w : Word} {s s1 u : State} (hio : IoOnly s s1) (hu : u.psw = (cmpw16 ya w s1).psw) :
    NZOf16 (ya - w) u ∧ FlagsKept [.n, .z, .c] s u ∧
      u.flag .c = (if s.cfg.cmpwWritesC then decide (w.toNat ≤ ya.toNat) else s.flag .c) := by
  refine ⟨⟨?_, ?_⟩, flagsKept_of hio.psw hu fun f hf => ?_, ?_⟩
  · rw [flag_congr hu, cmpw16_flag, ← word_msb]
    rfl
  · rw [flag_congr hu, cmpw16_flag]
    rfl
  · rw [cmpw16_flag]
    cases f <;> simp_all
  · rw [flag_congr hu, cmpw16_flag, ← hio.cfg, flag_congr hio.psw.symm]
    simp

/-! ## The shapes, where the word can be read -/

section Shapes

variable {op : Word → Word → State → Word × State} {Spec : Word → Word → State → State → Word → Prop}
  {d : Byte} {w : Word} {s s1 : State}

/-- An operation on YA completes (44_word16.md R397, R398). -/
theorem operateYa_of_read (hop : MeetsWord op Spec) (hread : readWordDP d s = .ok (w, s1)) :
    ∃ t r, operateYa op d s = .next t ∧
      t = { s with a := loByte r, y := hiByte r, psw := t.psw, ioReads := s1.ioReads } ∧ Spec s.ya w s t r := by
  have hio := readWordDP_ioOnly hread
  rw [← hio.ya]
  refine ⟨_, _, operateYa_eq_next.mpr ⟨w, s1, hread, rfl⟩, ?_, hop.result hio (setYa_psw _ _)⟩
  rw [hop.pswOnly s1.ya w s1, hio]
  rfl

/-- A word that can be written too is modified in place (44_word16.md R395, R396). -/
theorem modifyWordDP_of_read {f : Word → Word} (hread : readWordDP d s = .ok (w, s1))
    (hlo : s.writable (s.dp d) = true) (hhi : s.writable (s.dp (d + 1)) = true) :
    ∃ t, modifyWordDP f d s = .next t ∧
      t = { s with psw := t.psw, mem := t.mem, ioLog := t.ioLog, ioReads := s1.ioReads } ∧
      NZOf16 (f w) t ∧ FlagsKept [.n, .z] s t ∧ Stores [(s.dp d, loByte (f w)), (s.dp (d + 1), hiByte (f w))] s t := by
  have hio := readWordDP_ioOnly hread
  obtain ⟨u, hwrite, hu, hstores⟩ := hio.writeWordDP_stores (f w) hlo hhi
  have hpsw : u.psw = s.psw := by rw [hu]
  obtain ⟨hnz, hkept⟩ := isNZ16_of (w := f w) hpsw rfl
  refine ⟨setNZ16 (f w) u, modifyWordDP_eq_next.mpr ⟨w, s1, u, hread, hwrite, rfl⟩, ?_, hnz, hkept, hstores⟩
  rw [setNZ16_pswOnly (f w) u, hu]

/-- MOVW YA,dp completes (44_word16.md R393). -/
theorem execMovwYaDp_of_read (hread : readWordDP d s = .ok (w, s1)) :
    execMovwYaDp d s = .next (setNZ16 w (s1.setYa w)) := by
  rw [execMovwYaDp, hread]
  rfl

/-- CMPW completes (44_word16.md R399). -/
theorem execCmpwYaDp_of_read (hread : readWordDP d s = .ok (w, s1)) :
    execCmpwYaDp d s = .next (cmpw16 s1.ya w s1) := by
  rw [execCmpwYaDp, hread]
  rfl

end Shapes

/-! ## The obligations -/

/-- Settles O20: the load is a read of the word into YA, the store is a write of YA after no read. -/
theorem movwMovesWordAndSetsNZ : Obligations.MovwMovesWordAndSetsNZ := by
  refine ⟨fun d s s1 w hread => ?_, fun d s hlo hhi => ?_⟩
  · have hio := readWordDP_ioOnly hread
    refine ⟨_, execMovwYaDp_of_read hread, ?_, isNZ16_of ((setYa_psw s1 w).trans hio.psw) rfl⟩
    rw [setNZ16_pswOnly w (s1.setYa w), hio.setYa]
    rfl
  · obtain ⟨u, hwrite, hu, hstores⟩ := (IoOnly.refl s).writeWordDP_stores s.ya hlo hhi
    rw [State.ya, loByte_mkWord, hiByte_mkWord] at hstores
    exact ⟨u, complete_eq_next.mpr hwrite, hu, hstores⟩

/-- Settles O21: both commands modify the word in place, DECW by adding 65535 modulo 65536. -/
theorem wordIncrementDecrement : Obligations.WordIncrementDecrement := by
  intro d s s1 w e he hread hlo hhi
  obtain ⟨f, hexec, hf⟩ : ∃ f, exec e.1 s = modifyWordDP f d s ∧ (f w).toNat = (w.toNat + e.2) % 65536 := by
    fin_cases he
    · exact ⟨fun w => w + 1, rfl, BitVec.toNat_add w 1⟩
    · exact ⟨fun w => w - 1, rfl, word_sub_toNat w 1⟩
  obtain ⟨t, hrun, ht, hnz, hkept, hstores⟩ := modifyWordDP_of_read hread hlo hhi
  exact ⟨t, f w, hexec.trans hrun, hf, ht, hnz, hkept, hstores⟩

/-- Settles O22: ADDW is the operation `addw16` on YA. -/
theorem addwAddsWithoutCarryIn : Obligations.AddwAddsWithoutCarryIn := by
  intro d s s1 w hread
  obtain ⟨t, r, hrun, ht, hr, hsum, hhalf⟩ := operateYa_of_read addw16_meets hread
  rw [← ya_toNat, ← ya_getLsbD_15]
  exact ⟨t, r, hrun, hr, ht, hsum, hhalf⟩

/-- Settles O23: SUBW is the operation `subw16` on YA. -/
theorem subwSubtractsWithoutBorrowIn : Obligations.SubwSubtractsWithoutBorrowIn := by
  intro d s s1 w hread
  obtain ⟨t, r, hrun, ht, hr, hsum, hhalf⟩ := operateYa_of_read subw16_meets hread
  rw [← ya_toNat, ← ya_getLsbD_15]
  exact ⟨t, r, hrun, hr, ht, hsum, hhalf⟩

/-- Settles O24: CMPW writes the PSW alone, from the difference of YA and the word. -/
theorem cmpwWritesFlagsOnly : Obligations.CmpwWritesFlagsOnly := by
  intro d s s1 w hread
  have hio := readWordDP_ioOnly hread
  obtain ⟨hnz, hkept, hc⟩ := isCmpw16_of (ya := s1.ya) (w := w) hio rfl
  rw [← ya_toNat, ← hio.ya]
  refine ⟨_, _, execCmpwYaDp_of_read hread, word_sub_toNat _ w, ?_, hnz, hkept, hc⟩
  rw [cmpw16_pswOnly s1.ya w s1, hio]

end Sys2Proof.Machine
end

section
/-! PROOF. MUL, DIV, DAA and DAS (O25 to O28). All four complete in every state and write registers and the PSW alone.
What is left is that the product fits YA, that the quotient fits A exactly where DIV does not overflow, and that DAA
and DAS are one adjustment, DAS adding the complements of what DAA adds. -/

namespace Sys2Proof.Machine

/-! ## MUL -/

/-- The product of two bytes fits a word (45_muldiv_decimal.md R410). -/
theorem byte_mul_lt (m n : Byte) : m.toNat * n.toNat < 65536 :=
  calc m.toNat * n.toNat ≤ 255 * 255 := Nat.mul_le_mul (Nat.le_of_lt_succ m.isLt) (Nat.le_of_lt_succ n.isLt)
    _ < 65536 := by decide

/-- The bytes of a word as numbers (10_state.md R24, R25). -/
theorem hiByte_loByte_toNat (w : Word) : 256 * (hiByte w).toNat + (loByte w).toNat = w.toNat := by
  rw [← mkWord_toNat, mkWord_hiByte_loByte]

/-- The sign of a word is the sign of its high byte. -/
theorem word_msb_eq_hiByte (w : Word) : w.msb = testBit8 (hiByte w) 7 := by
  rw [word_msb, ← mkWord_hiByte_loByte w, getLsbD_mkWord, hiByte_mkWord]
  rfl

/-- A word is 0 if both its bytes are. -/
theorem word_beq_zero (w : Word) : (w == 0) = decide (hiByte w = 0 ∧ loByte w = 0) := by
  have hzero : w = 0 ↔ hiByte w = 0 ∧ loByte w = 0 := by
    rw [← mkWord_inj, mkWord_hiByte_loByte]
    rfl
  exact decide_eq_decide.mpr hzero

/-- A word in YA with the flags of MUL. N is the sign of the new Y for both values of MUL_FLAGS, Z is where they differ
(45_muldiv_decimal.md R410, D18, log 15). -/
theorem mulFlags16_setYa {w : Word} {s t : State} (h : mulFlags16 w (s.setYa w) = t) :
    t = { s with a := t.a, y := t.y, psw := t.psw } ∧ t.y = hiByte w ∧ t.a = loByte w ∧
    t.flag .n = testBit8 t.y 7 ∧
    t.flag .z = (if s.cfg.mulFlags = .ya then decide (t.y = 0 ∧ t.a = 0) else decide (t.y = 0)) ∧
    FlagsKept [.n, .z] s t := by
  have hpsw : PswOnly (s.setYa w) t := h ▸ mulFlags16_pswOnly w _
  have ha : t.a = loByte w := by rw [hpsw]; rfl
  have hy : t.y = hiByte w := by rw [hpsw]; rfl
  rw [ha, hy]
  refine ⟨hpsw, rfl, rfl, ?_, ?_, flagsKept_of (setYa_psw s w) (congrArg State.psw h.symm) fun f hf => ?_⟩
  · rw [← h, mulFlags16_flag, byte_msb, word_msb_eq_hiByte]
    exact ite_self _
  · rw [← h, mulFlags16_flag, word_beq_zero]
    rfl
  · rw [mulFlags16_flag]
    cases f <;> simp_all

/-- Settles O25: MUL puts the product in YA with its flags; the product is the word's own value as it fits. -/
theorem mulGivesProduct : Obligations.MulGivesProduct := by
  intro s
  obtain ⟨ht, hy, ha, hn, hz, hkept⟩ := mulFlags16_setYa (w := BitVec.ofNat 16 (s.y.toNat * s.a.toNat)) (s := s) rfl
  refine ⟨_, rfl, ht, ?_, hn, hz, hkept⟩
  rw [ha, hy, hiByte_loByte_toNat]
  exact Nat.mod_eq_of_lt (byte_mul_lt s.y s.a)

/-! ## DIV -/

/-- Where Y < X the quotient fits 8 bits (45_muldiv_decimal.md R411, D19). -/
theorem div8_of_lt {y x : Byte} (a : Byte) (h : y.toNat < x.toNat) :
    (div8 y a x).quotient.toNat = (256 * y.toNat + a.toNat) / x.toNat ∧
    (div8 y a x).remainder.toNat = (256 * y.toNat + a.toNat) % x.toNat ∧ (div8 y a x).overflow = false := by
  have ha := a.isLt
  have hx := x.isLt
  have hq : (256 * y.toNat + a.toNat) / x.toNat < 256 := Nat.div_lt_of_lt_mul (by omega)
  have hr : (256 * y.toNat + a.toNat) % x.toNat < x.toNat := Nat.mod_lt _ (by omega)
  rw [div8, if_pos h]
  exact ⟨Nat.mod_eq_of_lt hq, Nat.mod_eq_of_lt (by omega), rfl⟩

/-- Where Y >= X, also for X = 0, the results are the free value (45_muldiv_decimal.md R411, D19, log 20). -/
theorem div8_of_le {y x : Byte} (a : Byte) (h : x.toNat ≤ y.toNat) :
    (div8 y a x).quotient = (Config.divOverflow y a x).1 ∧ (div8 y a x).remainder = (Config.divOverflow y a x).2 ∧
    (div8 y a x).overflow = true := by
  rw [div8, if_neg (Nat.not_lt.mpr h)]
  exact ⟨rfl, rfl, rfl⟩

/-- H is the free value in both cases (45_muldiv_decimal.md R411, log 21). -/
theorem div8_half (y a x : Byte) : (div8 y a x).half = Config.divH y a x := by
  rw [div8]
  split <;> rfl

/-- DIV completes in every state, with what `div8` gives in A, Y, V and H (45_muldiv_decimal.md R412). -/
theorem execDivYaX_completes (s : State) :
    ∃ t, exec .divYaX s = .next t ∧
      t = { s with a := (div8 s.y s.a s.x).quotient, y := (div8 s.y s.a s.x).remainder, psw := t.psw } ∧
      t.flag .v = (div8 s.y s.a s.x).overflow ∧ t.flag .h = Config.divH s.y s.a s.x ∧ NZOf8 t.a t ∧
      FlagsKept [.n, .v, .h, .z] s t := by
  rw [← div8_half]
  refine ⟨_, rfl, rfl, ?_, ?_, (isNZ8_of rfl rfl).1, flagsKept_of (s1 := { s with
    a := (div8 s.y s.a s.x).quotient, y := (div8 s.y s.a s.x).remainder }) rfl rfl fun f hf => ?_⟩
  · simp
  · simp
  · cases f <;> simp_all

/-- Settles O26: DIV where the quotient fits. -/
theorem divGivesQuotientAndRemainder : Obligations.DivGivesQuotientAndRemainder := by
  intro s hlt
  obtain ⟨t, hrun, ht, hv, hh, hnz, hkept⟩ := execDivYaX_completes s
  obtain ⟨hq, hr, hover⟩ := div8_of_lt s.a hlt
  have ha : t.a = (div8 s.y s.a s.x).quotient := by rw [ht]
  have hy : t.y = (div8 s.y s.a s.x).remainder := by rw [ht]
  rw [← ha, ← hy] at ht
  exact ⟨t, hrun, ht, ha ▸ hq, hy ▸ hr, hv.trans hover, hh, hnz, hkept⟩

/-- Settles O27: DIV where the quotient does not fit. -/
theorem divOverflowSetsVAndCompletes : Obligations.DivOverflowSetsVAndCompletes := by
  intro s hle
  obtain ⟨t, hrun, ht, hv, hh, hnz, hkept⟩ := execDivYaX_completes s
  obtain ⟨hq, hr, hover⟩ := div8_of_le s.a hle
  rw [hq, hr] at ht
  exact ⟨t, hrun, ht, hv.trans hover, hh, hnz, hkept⟩

/-! ## DAA and DAS -/

/-- The common form of the decimal adjustments: `hi` is added if `high`, then `lo` if `low` or if the low digit of what
the first addition gave is above 9 (45_muldiv_decimal.md R413, R414). -/
def decimalAdjust (a hi lo : Byte) (high low : Prop) [Decidable high] [Decidable low] : Byte :=
  let a1 := if high then a + hi else a
  if low ∨ 9 < a1.toNat % 16 then a1 + lo else a1

/-- DAA adds 60 and 06 (45_muldiv_decimal.md R413). -/
theorem daa8_eq (a : Byte) (c h : Bool) :
    daa8 a c h = (decimalAdjust a 0x60 0x06 (c = true ∨ 0x99 < a.toNat) (h = true),
      decide (c = true ∨ 0x99 < a.toNat)) := by
  simp [daa8, decimalAdjust]

/-- DAS subtracts 60 and 06, that is, adds A0 and FA modulo 256 (45_muldiv_decimal.md R414). -/
theorem das8_eq (a : Byte) (c h : Bool) :
    das8 a c h = (decimalAdjust a 0xA0 0xFA (c = false ∨ 0x99 < a.toNat) (h = false),
      !decide (c = false ∨ 0x99 < a.toNat)) := by
  simp [das8, decimalAdjust, BitVec.sub_eq_add_neg]

section Adjust

variable {i : Instr} {s : State} {hi lo : Byte} {high low : Prop} [Decidable high] [Decidable low] {carry : Bool}

/-- A conditional addition as numbers. -/
theorem ite_add_toNat (a k : Byte) :
    (if high then a + k else a).toNat = if high then (a.toNat + k.toNat) % 256 else a.toNat := by
  split
  · exact BitVec.toNat_add a k
  · rfl

/-- An instruction that puts the adjusted A in A, and its N and Z and the carry in the PSW
(45_muldiv_decimal.md R415, R416). -/
theorem decimalAdjust_completes
    (hexec : exec i s = .next (setNZ8 (decimalAdjust s.a hi lo high low)
      ({ s with a := decimalAdjust s.a hi lo high low }.setFlag .c carry))) :
    ∃ t a1, exec i s = .next t ∧ t = { s with a := t.a, psw := t.psw } ∧
      a1 = (if high then (s.a.toNat + hi.toNat) % 256 else s.a.toNat) ∧
      t.a.toNat = (if low ∨ 9 < a1 % 16 then (a1 + lo.toNat) % 256 else a1) ∧
      t.flag .c = carry ∧ NZOf8 t.a t ∧ FlagsKept [.n, .z, .c] s t := by
  obtain ⟨hnz, hc, hkept⟩ := isShift8_of (s := s) (r := decimalAdjust s.a hi lo high low) (out := carry)
    (s1 := { s with a := decimalAdjust s.a hi lo high low }) rfl rfl
  refine ⟨_, _, hexec, rfl, rfl, ?_, hc, hnz, hkept⟩
  rw [← ite_add_toNat]
  exact ite_add_toNat _ lo

end Adjust

/-- DAA completes in every state (45_muldiv_decimal.md R415). -/
theorem exec_daaA_eq (s : State) :
    exec .daaA s = .next (setNZ8 (daa8 s.a (s.flag .c) (s.flag .h)).1
      ({ s with a := (daa8 s.a (s.flag .c) (s.flag .h)).1 }.setFlag .c (daa8 s.a (s.flag .c) (s.flag .h)).2)) := rfl

/-- DAS completes in every state (45_muldiv_decimal.md R416). -/
theorem exec_dasA_eq (s : State) :
    exec .dasA s = .next (setNZ8 (das8 s.a (s.flag .c) (s.flag .h)).1
      ({ s with a := (das8 s.a (s.flag .c) (s.flag .h)).1 }.setFlag .c (das8 s.a (s.flag .c) (s.flag .h)).2)) := rfl

/-- Settles O28: both commands are the decimal adjustment of A, with the constants and conditions of `daa8_eq` and
`das8_eq`. -/
theorem decimalAdjustAlgorithm : Obligations.DecimalAdjustAlgorithm :=
  ⟨fun s => decimalAdjust_completes (daa8_eq s.a _ _ ▸ exec_daaA_eq s),
    fun s => decimalAdjust_completes (das8_eq s.a _ _ ▸ exec_dasA_eq s)⟩

end Sys2Proof.Machine
end

section
/-! PROOF. Branches and jumps (O29 to O32). A branch writes pc alone, by one equation (`branchIf_eq`); the flag branches,
the branches on a byte and DBNZ differ in the condition, and in what they read and store before it. -/

namespace Sys2Proof.Machine

/-! ## Branching -/

/-- A branch writes pc alone: the signed offset is added where the condition holds (46_branch.md R430). -/
theorem branchIf_eq (s : State) (c : Bool) (rel : Byte) :
    s.branchIf c rel = { s with pc := if c then s.pc + BitVec.ofInt 16 rel.toInt else s.pc } := by
  cases c <;> rfl

/-- A branch after reads is the branch before them, with the reads counted. -/
theorem IoOnly.branchIf_eq {s t : State} (h : IoOnly s t) (c : Bool) (rel : Byte) :
    t.branchIf c rel = { s with
      pc := if c then s.pc + BitVec.ofInt 16 rel.toInt else s.pc, ioReads := t.ioReads } := by
  rw [Machine.branchIf_eq, h]

/-- Settles O29: each form is a branch on its condition, BRA on the one that always holds. -/
theorem branchesWritePcOnly : Obligations.BranchesWritePcOnly := by
  intro rel s e he
  have hexec : exec e.1 s = .next (s.branchIf e.2 rel) := by
    fin_cases he <;> rfl
  rw [hexec, branchIf_eq]

/-! ## Branches on a byte -/

/-- A branch on a byte that can be read completes (46_branch.md R440 to R443). -/
theorem branchOnByte_of_read {test : Byte → State → Bool} {mode : Mode} {rel m : Byte} {s s1 : State}
    (hread : readMode mode s = .ok (m, s1)) : branchOnByte test mode rel s = .next { s with
      pc := if test m s1 then s.pc + BitVec.ofInt 16 rel.toInt else s.pc, ioReads := s1.ioReads } := by
  rw [← (readMode_ioOnly hread).branchIf_eq]
  exact branchOnByte_eq_next.mpr ⟨m, s1, hread, rfl⟩

/-- Settles O30: BBS and BBC test the byte alone, CBNE compares it with A, which the read does not change. -/
theorem branchesOnAByteWritePcOnly : Obligations.BranchesOnAByteWritePcOnly := by
  intro bit d rel s s1 m _ e he hread
  have ha : (s1.a != m) = decide (s.a ≠ m) := by
    rw [(readMode_ioOnly hread).a]
    exact Bool.eq_iff_iff.mpr (bne_iff_ne.trans decide_eq_true_iff.symm)
  obtain ⟨test, hexec, htest⟩ : ∃ test, exec e.1 s = branchOnByte test e.2.1 rel s ∧ test m s1 = e.2.2 := by
    fin_cases he
    · exact ⟨fun v _ => testBit8 v bit, rfl, rfl⟩
    · exact ⟨fun v _ => !testBit8 v bit, rfl, rfl⟩
    iterate 2 exact ⟨fun v t => t.a != v, rfl, ha⟩
  rw [hexec, branchOnByte_of_read hread, htest]

/-! ## DBNZ -/

/-- A byte decrements to 0 exactly if it is 1, so DBNZ stays there and branches elsewhere (46_branch.md R444, R445). -/
theorem branchIf_sub_one_ne_zero (s : State) (v rel : Byte) : s.branchIf (v - 1 != 0) rel =
    { s with pc := if v = 1 then s.pc else s.pc + BitVec.ofInt 16 rel.toInt } := by
  have hzero : v - 1 = 0 ↔ v = 1 := sub_eq_zero
  simp only [branchIf_eq, bne_iff_ne, ne_eq, hzero, ite_not]

theorem execDbnzDp_of_writable {d rel : Byte} {s : State} (hw : s.writable (s.dp d) = true) :
    execDbnzDp d rel s = .next (((s.afterRead (s.dp d)).afterWrite (s.dp d) (s.byteAt (s.dp d) - 1)).branchIf
      (s.byteAt (s.dp d) - 1 != 0) rel) := by
  have hw1 : (s.afterRead (s.dp d)).writable (s.dp d) = true := (writable_afterRead s _ _).trans hw
  simp only [execDbnzDp, ea, ok_bind, readByte_of_readable (readable_of_writable hw), writeByte_of_writable hw1,
    pure_eq_ok, complete]

/-- Settles O31: DBNZ dp stores the decremented byte and DBNZ Y writes Y; both then branch unless the byte was 1. -/
theorem dbnzDecrementsAndBranches : Obligations.DbnzDecrementsAndBranches := by
  refine ⟨fun d rel s hw => ?_, fun rel s => congrArg _ (branchIf_sub_one_ne_zero _ s.y rel)⟩
  obtain ⟨ht, hstores⟩ := (afterRead_ioOnly s (s.dp d)).afterWrite_stores (s.dp d) (s.byteAt (s.dp d) - 1)
  refine ⟨_, execDbnzDp_of_writable hw, ?_, ?_⟩
  · rw [branchIf_sub_one_ne_zero, ht]
  · rw [branchIf_sub_one_ne_zero]
    exact hstores

/-! ## JMP -/

/-- JMP (!abs+X) completes where the word at the operand plus X can be read (46_branch.md R447). -/
theorem execJmpIndAbsPlusX_of_read {addr : Addr} {w : Word} {s s1 : State}
    (hread : readWord (addr + zext16 s.x) s = .ok (w, s1)) :
    execJmpIndAbsPlusX addr s = .next { s with pc := w, ioReads := s1.ioReads } := by
  have hio := readWord_ioOnly hread
  simp only [execJmpIndAbsPlusX, ea, ok_bind, hread, pure_eq_ok, complete]
  rw [hio]

/-- Settles O32: the address of the pointer is the sum of the operand and X modulo 65536. -/
theorem jumpsSetPc : Obligations.JumpsSetPc := by
  refine ⟨fun _ _ => rfl, fun addr s s1 w hread => ?_⟩
  rw [← add_zext16_eq_ofNat] at hread
  exact execJmpIndAbsPlusX_of_read hread

end Sys2Proof.Machine
end

section
/-! PROOF. Calls, BRK and the returns (O33 to O36). The model's laws of the stack say what is pushed and popped; what is
left is the target: given by the instruction, or a word read after the pushes. -/

namespace Sys2Proof.Machine

/-! ## Calls and BRK -/

/-- A word that can be read, as an update of the state: the reads are counted (20_memory.md R81). -/
theorem readWord_of_readable {s : State} {v : Addr} (hlo : s.readable v = true) (hhi : s.readable (v + 1) = true) :
    readWord v s = .ok (mkWord ((s.afterRead v).byteAt (v + 1)) (s.byteAt v),
      { s with ioReads := ((s.afterRead v).afterRead (v + 1)).ioReads }) := by
  have hread := readWord_eq_ok.mpr ⟨hlo, hhi, rfl, rfl⟩
  rw [hread, ← readWord_ioOnly hread]

/-- Settles O33: both forms push pc, which leaves the parameters, and then set pc. -/
theorem callsPushReturnAddress : Obligations.CallsPushReturnAddress := by
  intro addr upage s e he hw1 hw2
  obtain ⟨u, hpush, hu, hstores⟩ := pushPc_stores hw1 hw2
  have hcfg : u.cfg = s.cfg := by rw [hu]
  have hexec : exec e.1 s = .next { u with pc := e.2 } := by
    fin_cases he
    · simp only [exec, execCallAbs, hpush, ok_bind, pure_eq_ok, complete]
    · simp only [exec, execPcall, hpush, ok_bind, hcfg, zext16, pure_eq_ok, complete]
  refine ⟨_, hexec, ?_, hstores⟩
  rw [hu]

/-- Settles O34: the entry is read in the state after the pushes, which leave the parameters. -/
theorem tcallGoesThroughTable : Obligations.TcallGoesThroughTable := by
  intro n s v _ hv hw1 hw2 hlo hhi
  obtain ⟨u, hpush, hu, hstores⟩ := pushPc_stores hw1 hw2
  have hcfg : u.cfg = s.cfg := by rw [hu]
  have hread := readWord_of_readable ((readable_of_cfg hcfg v).trans hlo) ((readable_of_cfg hcfg (v + 1)).trans hhi)
  refine ⟨u, hu, hstores, ?_⟩
  simp only [exec, execTcall, hpush, ok_bind, hcfg, ← hv, hread, pure_eq_ok, complete]

/-- Settles O35: `enterBreak_stores` gives the state before the vector is read; B and I are the two flags written. -/
theorem brkTakesTheException : Obligations.BrkTakesTheException := by
  intro s v hv hw1 hw2 hw3 hlo hhi
  obtain ⟨u, hu, hpsw, hstores, henter⟩ := enterBreak_stores hw1 hw2 hw3
  have hcfg : u.cfg = s.cfg := by rw [hu]
  have hflag : ∀ f, u.flag f = if f = .i then false else if f = .b then true else s.flag f := fun f => by
    rw [flag_congr hpsw, flag_setFlag, flag_setFlag]
  have hread := readWord_of_readable ((readable_of_cfg hcfg v).trans hlo) ((readable_of_cfg hcfg (v + 1)).trans hhi)
  refine ⟨u, hu, hflag .b, hflag .i, fun f hf => ?_, hstores, ?_⟩
  · obtain ⟨hb, hi⟩ : f ≠ .b ∧ f ≠ .i := by simpa using hf
    rw [hflag, if_neg hi, if_neg hb]
  · simp only [exec, execBrk, henter, ← hv, hread, ok_bind, pure_eq_ok, complete]

/-! ## The returns -/

/-- Settles O36: RET is the pop of pc, RET1 the leaving of the BRK handler. -/
theorem returnsPopPcAndPsw : Obligations.ReturnsPopPcAndPsw :=
  ⟨fun _ _ _ hp hq hrp hrq => complete_eq_next.mpr ((popPc_eq_ok hp hq).mpr ⟨hrp, hrq, rfl⟩),
    fun _ _ _ _ hp hq hr hrp hrq hrr => complete_eq_next.mpr ((leaveBreak_eq_ok hp hq hr).mpr ⟨hrp, hrq, hrr, rfl⟩)⟩

end Sys2Proof.Machine
end

section
/-! PROOF. The bit commands (O39 to O42). Those that write memory are read-modify-writes that write the PSW at most; those
that write C run the one shape `carryBit`. -/

namespace Sys2Proof.Machine

/-! ## Commands that write memory -/

section ReadModifyWrite

variable {dst : Mode} {a : Addr} {s : State}

/-- A read-modify-write of a byte that can be written completes, where the operation writes the PSW at most. The operation
may look at any field of the state, where that of `modifyMem_of_writable` looks at the PSW alone. -/
theorem modifyMem_stores {op : Byte → State → Byte × State}
    (hop : PswOnly (s.afterRead a) (op (s.byteAt a) (s.afterRead a)).2) (hea : ea dst s = .ok (a, s))
    (hw : s.writable a = true) :
    ∃ t, modifyMem op dst s = .next t ∧
      t = { s with
        psw := (op (s.byteAt a) (s.afterRead a)).2.psw, mem := t.mem, ioLog := t.ioLog,
        ioReads := (s.afterRead a).ioReads } ∧
      Stores [(a, (op (s.byteAt a) (s.afterRead a)).1)] s t := by
  have hio := afterRead_ioOnly s a
  have hcfg := hop.cfg.trans hio.cfg
  refine ⟨_, modifyMem_eq_next.mpr ⟨a, s, hea, readable_of_writable hw, (writable_of_cfg hcfg a).trans hw, rfl⟩, ?_,
    stores_one hcfg (hop.mem.trans hio.mem) (hop.ioLog.trans hio.ioLog) rfl rfl⟩
  rw [afterWrite_memOnly, hop, hio]

/-- Writing one bit of a byte that can be written keeps the other seven and every flag (48_bit.md R500). -/
theorem modifyMem_withBit {bit : Nat} (hbit : bit < 8) (v : Byte → State → Bool) (hea : ea dst s = .ok (a, s))
    (hw : s.writable a = true) :
    ∃ t r, modifyMem (fun m u => (withBit m bit (v m u), u)) dst s = .next t ∧
      (∀ b, b < 8 → testBit8 r b = if b = bit then v (s.byteAt a) (s.afterRead a) else testBit8 (s.byteAt a) b) ∧
      t = { s with mem := t.mem, ioLog := t.ioLog, ioReads := (s.afterRead a).ioReads } ∧ Stores [(a, r)] s t := by
  obtain ⟨t, hrun, ht, hstores⟩ :=
    modifyMem_stores (op := fun m u => (withBit m bit (v m u), u)) (PswOnly.refl _) hea hw
  rw [afterRead_psw] at ht
  exact ⟨t, _, hrun, fun b hb => testBit8_withBit _ _ hbit hb, ht, hstores⟩

end ReadModifyWrite

/-- Settles O39: both commands write the bit, with a value of their own. -/
theorem directPageBitCommands : Obligations.DirectPageBitCommands := by
  intro bit d s hbit e he hw
  have hexec : exec e.1 s = modifyMem (fun m u => (withBit m bit e.2, u)) (.dp d) s := by
    fin_cases he <;> rfl
  rw [hexec]
  exact modifyMem_withBit hbit (fun _ _ => e.2) rfl hw

/-- Settles O42: NOT1 takes the value of the bit from the byte, MOV1 from C, which the read does not change. -/
theorem memoryBitCommandsWriteOneBit : Obligations.MemoryBitCommandsWriteOneBit := by
  intro addr bit s m _ hbit hm e he hw
  obtain ⟨v, hexec, hv⟩ : ∃ v : Byte → State → Bool,
      exec e.1 s = modifyMem (fun m u => (withBit m bit (v m u), u)) (.abs addr) s ∧
      v (s.byteAt addr) (s.afterRead addr) = e.2 := by
    fin_cases he
    · exact ⟨fun m _ => !testBit8 m bit, rfl, by rw [hm]⟩
    · exact ⟨fun _ u => u.flag .c, rfl, flag_congr (afterRead_psw s addr) .c⟩
  rw [hexec, hm, ← hv]
  exact modifyMem_withBit hbit v rfl hw

/-- TSET1 and TCLR1 set N and Z of the value that TSET_TEST chooses (48_bit.md R503, R504). -/
theorem testAgainstA_eq (m : Byte) (s : State) :
    testAgainstA m s = setNZ8 (if s.cfg.tsetTest = .sub then s.a - m else s.a &&& m) s := by
  unfold testAgainstA
  cases s.cfg.tsetTest <;> rfl

/-- Settles O40: both commands test the old byte against A; they differ in the byte stored. -/
theorem testAndSetTestAndClear : Obligations.TestAndSetTestAndClear := by
  intro addr s m q hm hq e he hw
  obtain ⟨f, hexec, hf⟩ : ∃ f : Byte → Byte → Byte,
      exec e.1 s = modifyMem (fun m u => (f m u.a, testAgainstA m u)) (.abs addr) s ∧ f m s.a = e.2 := by
    fin_cases he
    · exact ⟨fun m a => m ||| a, rfl, rfl⟩
    · exact ⟨fun m a => m &&& ~~~a, rfl, rfl⟩
  obtain ⟨t, hrun, ht, hstores⟩ := modifyMem_stores (op := fun m u => (f m u.a, testAgainstA m u))
    (dst := .abs addr) (testAgainstA_pswOnly (s.byteAt addr) (s.afterRead addr)) rfl hw
  have hpsw : t.psw = (setNZ8 q (s.afterRead addr)).psw := by
    rw [ht, testAgainstA_eq, afterRead_cfg, afterRead_a, ← hm, ← hq]
  obtain ⟨hnz, hkept⟩ := isNZ8_of (afterRead_psw s addr) hpsw
  refine ⟨t, hexec.trans hrun, ?_, hnz, hkept, ?_⟩
  · rw [ht]
  · simpa only [afterRead_a, ← hm, hf] using hstores

/-! ## Commands that write C -/

/-- A carry-bit command on a byte that can be read completes and writes C alone (48_bit.md R505 to R511). -/
theorem carryBit_of_readable (f : Bool → Bool → Bool) (bit : Nat) {addr : Addr} {s : State}
    (hr : s.readable addr = true) :
    ∃ t, carryBit f addr bit s = .next t ∧ t = { s with psw := t.psw, ioReads := (s.afterRead addr).ioReads } ∧
      t.flag .c = f (s.flag .c) (testBit8 (s.byteAt addr) bit) ∧ FlagsKept [.c] s t := by
  have hflag := flag_congr (afterRead_psw s addr)
  refine ⟨_, carryBit_eq_next.mpr ⟨hr, rfl⟩, ?_, ?_, fun g hg => ?_⟩
  · rw [setFlag_pswOnly (s.afterRead addr), afterRead_ioOnly s addr]
  · rw [flag_setFlag, if_pos rfl, hflag]
  · rw [flag_setFlag, if_neg (List.ne_of_not_mem_cons hg), hflag]

/-- Settles O41: each form combines C and the bit by a function of its own. -/
theorem carryBitCommandsWriteC : Obligations.CarryBitCommandsWriteC := by
  intro addr bit s m _ _ hm e he hr
  obtain ⟨f, hexec, hf⟩ : ∃ f, exec e.1 s = carryBit f addr bit s ∧ f (s.flag .c) m = e.2 := by
    fin_cases he
    exacts [⟨fun c b => c && b, rfl, rfl⟩, ⟨fun c b => c && !b, rfl, rfl⟩, ⟨fun c b => c || b, rfl, rfl⟩,
      ⟨fun c b => c || !b, rfl, rfl⟩, ⟨fun c b => c != b, rfl, rfl⟩, ⟨fun _ b => b, rfl, rfl⟩]
  rw [hexec, ← hf, hm]
  exact carryBit_of_readable f bit hr

end Sys2Proof.Machine
end

section
/-! PROOF. The flag commands (O43): each writes a list of flags, no flag twice, so it is enough to say once what such a
list of writes leaves. -/

namespace Sys2Proof.Machine

/-- The flags of the list written, one after the other. -/
def State.setFlags (s : State) : List (Flag × Bool) → State
  | [] => s
  | w :: ws => (s.setFlag w.1 w.2).setFlags ws

theorem setFlags_pswOnly (s : State) (ws : List (Flag × Bool)) : PswOnly s (s.setFlags ws) := by
  induction ws generalizing s with
  | nil => exact PswOnly.refl s
  | cons w ws ih => exact (setFlag_pswOnly s w.1 w.2).trans (ih _)

/-- The flags outside the list are kept. -/
theorem setFlags_flagsKept (s : State) (ws : List (Flag × Bool)) : FlagsKept (ws.map Prod.fst) s (s.setFlags ws) := by
  induction ws generalizing s with
  | nil => exact fun _ _ => rfl
  | cons w ws ih =>
    intro f hf
    rw [State.setFlags, ih _ f (List.not_mem_of_not_mem_cons hf), flag_setFlag, if_neg (List.ne_of_not_mem_cons hf)]

/-- Each flag of the list has its value after the writes, if none is written twice. -/
theorem flag_setFlags_of_mem {ws : List (Flag × Bool)} (hnodup : (ws.map Prod.fst).Nodup) (s : State) :
    ∀ w ∈ ws, (s.setFlags ws).flag w.1 = w.2 := by
  induction ws generalizing s with
  | nil => simp
  | cons v ws ih =>
    obtain ⟨hnotin, hrest⟩ := List.nodup_cons.mp hnodup
    intro w hw
    obtain rfl | hw := List.mem_cons.mp hw
    · rw [State.setFlags, setFlags_flagsKept _ ws w.1 hnotin, flag_setFlag, if_pos rfl]
    · exact ih hrest _ w hw

/-- SETP writes P, and I where SETP_CLEARS_I says so (49_psw_misc.md R535). -/
theorem execSetp_eq (s : State) :
    execSetp s = .next (s.setFlags (if s.cfg.setpClearsI then [(.p, true), (.i, false)] else [(.p, true)])) := by
  cases h : s.cfg.setpClearsI <;> simp [execSetp, State.setFlags, h]

/-- Settles O43: each command writes its list. -/
theorem flagCommandsWriteTheirFlags : Obligations.FlagCommandsWriteTheirFlags := by
  intro s e he
  have hexec : exec e.1 s = .next (s.setFlags e.2) := by
    fin_cases he
    exacts [rfl, rfl, rfl, rfl, rfl, execSetp_eq s, rfl, rfl]
  have hnodup : (e.2.map Prod.fst).Nodup := by
    fin_cases he
    iterate 5 simp
    · cases s.cfg.setpClearsI <;> decide
    iterate 2 simp
  exact ⟨_, hexec, setFlags_pswOnly s e.2, flag_setFlags_of_mem hnodup s, setFlags_flagsKept s e.2⟩

end Sys2Proof.Machine
end

section
/-! PROOF. The reset event (O51). Its memory is two lists, one below the ROM and one in it: an address is read in the list
of its side, and the two in a row are canonical. -/

namespace Sys2Proof.Machine

/-! ## Memories put together -/

/-- Keeping some addresses of a memory keeps what they read as; the others read as unlisted. -/
theorem Memory.read_filter (p : Nat → Bool) (m : Memory) (k : Nat) :
    Memory.read (m.filter fun c => p c.1) k = if p k then Memory.read m k else Memory.unlisted := by
  induction m with
  | nil => simp [Memory.read]
  | cons c rest ih =>
    by_cases hk : c.1 = k
    · cases hp : p k <;> simp [Memory.read, hk, hp, ih]
    · cases hp : p c.1 <;> simp [Memory.read, hk, hp, ih]

/-- An address that the first list does not have is read in the second. -/
theorem Memory.read_append_of_ne {m : Memory} {k : Nat} (h : ∀ c ∈ m, c.1 ≠ k) (m2 : Memory) :
    Memory.read (m ++ m2) k = Memory.read m2 k := by
  induction m with
  | nil => rfl
  | cons c rest ih =>
    obtain ⟨hc, hrest⟩ := List.forall_mem_cons.mp h
    rw [List.cons_append, Memory.read, if_neg hc, ih hrest]

/-- An address that the second list does not have is read in the first. -/
theorem Memory.read_append_of_ne_right (m : Memory) {m2 : Memory} {k : Nat} (h : ∀ c ∈ m2, c.1 ≠ k) :
    Memory.read (m ++ m2) k = Memory.read m k := by
  induction m with
  | nil => simpa using Memory.read_append_of_ne h []
  | cons c rest ih => rw [List.cons_append, Memory.read, Memory.read, ih]

/-- A canonical memory whose addresses start at `bound` is canonical from there on. -/
theorem Memory.wfFrom_of_le {m : Memory} {low bound : Nat} (h : Memory.wfFrom low m = true)
    (hle : ∀ c ∈ m, bound ≤ c.1) : Memory.wfFrom bound m = true := by
  cases m with
  | nil => rfl
  | cons c rest =>
    obtain ⟨-, hrest⟩ := Memory.wfFrom_cons.mp h
    exact Memory.wfFrom_cons.mpr ⟨hle c List.mem_cons_self, hrest⟩

/-- Two canonical memories in a row, the first below `bound` and the second from there on, are canonical. -/
theorem Memory.wfFrom_append {m m2 : Memory} {low bound : Nat} (h : Memory.wfFrom low m = true)
    (hlt : ∀ c ∈ m, c.1 < bound) (hlow : low ≤ bound) (h2 : Memory.wfFrom bound m2 = true) :
    Memory.wfFrom low (m ++ m2) = true := by
  induction m generalizing low with
  | nil => exact Memory.wfFrom_mono m2 hlow h2
  | cons c rest ih =>
    obtain ⟨hc, hrest⟩ := List.forall_mem_cons.mp hlt
    obtain ⟨hlc, hk, hb, hwf⟩ := Memory.wfFrom_cons.mp h
    exact Memory.wfFrom_cons.mpr ⟨hlc, hk, hb, ih hwf hrest hc⟩

/-! ## The memory after a reset -/

/-- Below the ROM the memory after a reset is the draw's (70_reset_and_hazards.md R700). -/
theorem read_resetMemory_of_lt {k : Nat} (hk : k < romBase.toNat) (ram old : Memory) :
    Memory.read (resetMemory ram old) k = Memory.read ram k := by
  have hne : ∀ c ∈ old.filter (fun c => romBase.toNat ≤ c.1), c.1 ≠ k := fun c hc => by
    have hle : romBase.toNat ≤ c.1 := by simpa using (List.mem_filter.mp hc).2
    omega
  rw [resetMemory, Memory.read_append_of_ne_right _ hne, Memory.read_filter (fun n => n < romBase.toNat),
    if_pos (decide_eq_true hk)]

/-- In the ROM the memory after a reset is the old one (70_reset_and_hazards.md R700). -/
theorem read_resetMemory_of_le {k : Nat} (hk : romBase.toNat ≤ k) (ram old : Memory) :
    Memory.read (resetMemory ram old) k = Memory.read old k := by
  have hne : ∀ c ∈ ram.filter (fun c => c.1 < romBase.toNat), c.1 ≠ k := fun c hc => by
    have hlt : c.1 < romBase.toNat := by simpa using (List.mem_filter.mp hc).2
    omega
  rw [resetMemory, Memory.read_append_of_ne hne, Memory.read_filter (fun n => romBase.toNat ≤ n),
    if_pos (decide_eq_true hk)]

/-- The memory after a reset is canonical if the draw's and the old one are. -/
theorem resetMemory_wf {ram old : Memory} (hram : ram.wf = true) (hold : old.wf = true) :
    (resetMemory ram old).wf = true :=
  Memory.wfFrom_append (Memory.filter_wf _ ram 0 hram) (fun c hc => by simpa using (List.mem_filter.mp hc).2)
    (Nat.zero_le romBase.toNat)
    (Memory.wfFrom_of_le (Memory.filter_wf _ old 0 hold) fun c hc => by simpa using (List.mem_filter.mp hc).2)

/-! ## The event -/

/-- The ROM can be read under every setting of the parameters (20_memory.md R61). -/
theorem readable_of_romBase_le {s : State} {a : Addr} (ha : 0xFFC0 ≤ a.toNat) : s.readable a = true := by
  simp [State.readable, region_of_romBase_le ha]

/-- The PSW after a reset: B and I as drawn, the other flags 0 (70_reset_and_hazards.md R700). -/
theorem flag_of_reset_psw {t : State} {b i : Bool} (h : t.psw = withBit (withBit 0 Flag.b.bit b) Flag.i.bit i)
    (f : Flag) : t.flag f = if f = .i then i else if f = .b then b else false := by
  have hzero : State.flag { t with psw := 0 } f = false := BitVec.getLsbD_zero
  have hset : t.psw = ((State.setFlag { t with psw := 0 } .b b).setFlag .i i).psw := h
  rw [flag_congr hset, flag_setFlag, flag_setFlag, hzero]

/-- The reset event as an update of the state: the vector lies in the ROM, so its read succeeds
(70_reset_and_hazards.md R700). -/
theorem resetEvent_eq (draw : ResetDraw) (s : State) :
    resetEvent draw s = .ok { s with
      a := draw.a, x := draw.x, y := draw.y, sp := draw.sp,
      psw := withBit (withBit 0 Flag.b.bit draw.b) Flag.i.bit draw.i,
      pc := mkWord ((s.afterRead 0xFFFE).byteAt 0xFFFF) (s.byteAt 0xFFFE),
      mem := resetMemory draw.ram s.mem, run := .running,
      ioReads := ((s.afterRead 0xFFFE).afterRead 0xFFFF).ioReads } := by
  have hread := readWord_of_readable (s := s) (v := 0xFFFE) (readable_of_romBase_le (by decide))
    (readable_of_romBase_le (by decide))
  rw [resetEvent, hread]
  rfl

/-- Settles O51: the values are those of `resetEvent_eq`; the flags and the memory are read by the lemmas above. -/
theorem resetEventWritesWhatTheSpecSays : Obligations.ResetEventWritesWhatTheSpecSays := by
  intro draw s
  refine ⟨_, resetEvent_eq draw s, rfl, fun f hf => ?_, flag_of_reset_psw rfl .b, flag_of_reset_psw rfl .i, rfl, rfl, rfl,
    rfl, rfl, rfl, fun _ hk => read_resetMemory_of_le hk draw.ram s.mem,
    fun _ hk => read_resetMemory_of_lt hk draw.ram s.mem, resetMemory_wf⟩
  rw [flag_of_reset_psw rfl f]
  fin_cases hf <;> rfl

end Sys2Proof.Machine
end
